-- ==== Sys2Proof/Word.lean ====
section
/-!
DEFINITION. The plain types every other file uses: bytes, agent and group numbers, links.
-/

namespace Sys2Proof

/-- One byte of a frame (section 9.1). -/
abbrev Byte := BitVec 8

/-- The register of the check-value computation (R178). -/
abbrev Word32 := BitVec 32

/-- An agent number, 0 to 7; it is also the number of the agent's link (00_scope.md, "The links"). -/
abbrev AgentId := Fin 8

/-- A Churn Monitor group, 0 or 1 (R118). -/
abbrev GroupId := Fin 2

/-- One of the nine links: LI-A0 to LI-A7, or LI-M (00_scope.md, "The links"). -/
inductive LinkId where
  | agent (a : AgentId)
  | mgmt
deriving DecidableEq, Repr

end Sys2Proof
end

