-- ==== Sys2Proof/Syntax.lean ====
section
/-!
DEFINITION. The commands of the block: one constructor for each row of spec/opcode_table.json. A row that takes a
buffered frame has no operand but the link, because the frame's fields are those of the frame at the buffer's head
(R140, R141, R157).
-/

namespace Sys2Proof

/-- A happening (R1), named by the row of the table. -/
inductive Instr where
  /-- POWER_ON (R2) -/
  | powerOn
  /-- MILLISECOND_TICK (R2) -/
  | millisecondTick
  /-- SIGNAL_FOUND (R130) on a link -/
  | signalFound (link : LinkId)
  /-- SIGNAL_LOST (R131) on a link -/
  | signalLost (link : LinkId)
  /-- FRAME_ARRIVAL (R132): the bytes between two frame boundaries on LI-An -/
  | frameArrival (agent : AgentId) (bytes : List Byte)
  /-- JOIN (R81) taken from LI-An's answerable buffer -/
  | join (agent : AgentId)
  /-- ACQUIRE (R37) taken from LI-An's answerable buffer -/
  | acquire (agent : AgentId)
  /-- CONVERT (R45) taken from LI-An's answerable buffer -/
  | convert (agent : AgentId)
  /-- QUERY (R50) taken from LI-An's answerable buffer -/
  | query (agent : AgentId)
  /-- LEAVE (R85) taken from LI-An's answerable buffer -/
  | leave (agent : AgentId)
  /-- RELEASE (R22) taken from LI-An's closing buffer -/
  | release (agent : AgentId)
  /-- DOWNGRADE (R24) taken from LI-An's closing buffer -/
  | downgrade (agent : AgentId)
  /-- CANCEL (R49) taken from LI-An's closing buffer -/
  | cancel (agent : AgentId)
  /-- KEEPALIVE (R90) taken from LI-An's closing buffer -/
  | keepalive (agent : AgentId)
  /-- WAIT_DEADLINE (R48) of the entry an agent's tag names (R34) -/
  | waitDeadline (agent : AgentId) (tag : Nat)
  /-- RECALL_DEADLINE (R66) of the recall on the record in a slot -/
  | recallDeadline (slot : Nat)
  /-- SESSION_LEASE_EXPIRY (R89) of an agent's session -/
  | sessionLeaseExpiry (agent : AgentId)
  /-- SWEEP_STEP (R106) -/
  | sweepStep
  /-- AGENT_LINK_SEND (R148) on LI-An -/
  | agentLinkSend (agent : AgentId)
  /-- END_OF_TRANSMISSION (R147) on a link -/
  | endOfTransmission (link : LinkId)
  /-- MGMT_FRAME_ARRIVAL (R154): the bytes between two frame boundaries on LI-M -/
  | mgmtFrameArrival (bytes : List Byte)
  /-- MGMT_LINK_SEND (R158) -/
  | mgmtLinkSend
  /-- REPORT_ACK (R157) taken from the command buffer -/
  | reportAck
  /-- CONFIGURE (R162) taken from the command buffer -/
  | configure
  /-- SET_PARAM (R163) taken from the command buffer -/
  | setParam
  /-- ADMIT (R96) taken from the command buffer -/
  | admitAgent
  /-- EVICT (R97) taken from the command buffer -/
  | evict
  /-- PAUSE (R161) taken from the command buffer -/
  | pause
  /-- RESUME (R161) taken from the command buffer -/
  | resume
  /-- SWEEP_START (R103) taken from the command buffer -/
  | sweepStart
  /-- SWEEP_ABORT (R114) taken from the command buffer -/
  | sweepAbort
  /-- QUERY_EXTENT (R167) taken from the command buffer -/
  | queryExtent
  /-- QUERY_AGENT (R168) taken from the command buffer -/
  | queryAgent
  /-- ACK_CHURN (R123) taken from the command buffer -/
  | ackChurn
  /-- REPORT_RESUME (R176) taken from the command buffer -/
  | reportResume
  /-- READ_COUNTERS (R169) taken from the command buffer -/
  | readCounters
  /-- RESET_DIRECTORY (R171) taken from the command buffer -/
  | resetDirectory
deriving DecidableEq, Repr

end Sys2Proof
end

