-- ==== Sys2Proof/Config.lean ====
section
/-!
DEFINITION. The capacities, ranges and power-on values of the part (00_scope.md, "Capacities and parameter
ranges"; section 8.4; R118). The spec leaves no value open, so no constant here is a free value.
-/

namespace Sys2Proof.Config

/-- Longest extent length (R3). -/
abbrev maxExtentLength : Nat := 16777215
/-- Block numbers lie below this, and V is at most this (R3, R163). -/
abbrev blockLimit : Nat := 2 ^ 48
/-- Where the Time Base stops (R2). -/
abbrev timeMax : Nat := 2 ^ 64 - 1
/-- The grant counter at which no token can be issued (R16). -/
abbrev tokenMax : Nat := 2 ^ 64 - 1
/-- The largest epoch (R79). -/
abbrev epochMax : Nat := 2 ^ 32 - 1
/-- Where every 32-bit counter, tally and the lost count stop (R100, R116, R169, R173). -/
abbrev counterMax : Nat := 2 ^ 32 - 1

/-- Slots of the Grant Table (R11). -/
abbrev slotCount : Nat := 4096
/-- Wait List entries (R34). -/
abbrev waitCapacity : Nat := 128
/-- Largest valid tag of an agent request (R32). -/
abbrev maxTag : Nat := 31
/-- Answerable ingress buffer of an agent link (R129). -/
abbrev answerableCapacity : Nat := 16
/-- Closing ingress buffer of an agent link (R129). -/
abbrev closingCapacity : Nat := 8
/-- Command buffer of LI-M (R153). -/
abbrev commandCapacity : Nat := 4
/-- Reply slots of an agent link (R129). -/
abbrev agentReplySlots : Nat := 32
/-- Reply slots of LI-M (R153). -/
abbrev mgmtReplySlots : Nat := 4
/-- NOTICE frames a control lane keeps (R144). -/
abbrev noticeCapacity : Nat := 16
/-- Reports the Report Queue holds (R173). -/
abbrev reportCapacity : Nat := 64
/-- Descriptors one range walk returns (R14). -/
abbrev descriptorLimit : Nat := 12
/-- Largest recall window a JOIN may ask for (R81). -/
abbrev maxRecallWindow : Nat := 16
/-- How far below a sweep's range start a record that reaches it can start (R105). -/
abbrev sweepReach : Nat := 16777214
/-- The cap on the recall interval, in units of T_r (R67). -/
abbrev backoffCap : Nat := 64

/-- Bytes of a frame header (section 9.1). -/
abbrev headerBytes : Nat := 10
/-- Bytes of a check value (section 9.1). -/
abbrev checkBytes : Nat := 4
/-- Largest body (section 9.1). -/
abbrev maxBody : Nat := 256

/-- Power-on V, L, T_r, N_r and report window (section 8.4). -/
abbrev powerOnVolume : Nat := 0
abbrev powerOnLease : Nat := 2000
abbrev powerOnRecallTimeout : Nat := 100
abbrev powerOnAttemptLimit : Nat := 4
abbrev powerOnReportWindow : Nat := 0
/-- Power-on W and C of both groups (R118). -/
abbrev powerOnWindow : Nat := 16
abbrev powerOnThreshold : Nat := 8

end Sys2Proof.Config
end

