-- ==== Sys2Proof/Machine/Bytes.lean ====
section
/-!
DEFINITION. Numbers as bytes, the check value, and the bytes of a frame (section 9.1, R178).
-/

namespace Sys2Proof.Machine

/-- The number that bytes spell, most significant byte first (Chapter 9). -/
def beNat (bytes : List Byte) : Nat := bytes.foldl (fun n b => n * 256 + b.toNat) 0

/-- A number in `size` bytes, most significant byte first (Chapter 9). -/
def beBytes : Nat → Nat → List Byte
  | 0, _ => []
  | size + 1, n => beBytes size (n / 256) ++ [BitVec.ofNat 8 n]

/-- The field of `size` bytes that begins `offset` bytes into a body (section 9.4). -/
def field (body : List Byte) (offset size : Nat) : Nat := beNat ((body.drop offset).take size)

/-- One bit of the check-value computation (R178). -/
def crcBit (c : Word32) (dataBit : Bool) : Word32 :=
  if c.getLsbD 0 != dataBit then (c >>> 1) ^^^ 0xEDB88320#32 else c >>> 1

/-- One byte of the check-value computation: its bits from least to most significant (R178). -/
def crcByte (c : Word32) (b : Byte) : Word32 :=
  [0, 1, 2, 3, 4, 5, 6, 7].foldl (fun c k => crcBit c (b.getLsbD k)) c

/-- The check value of header and body (R178). -/
def crc32 (bytes : List Byte) : Word32 := bytes.foldl crcByte 0xFFFFFFFF#32 ^^^ 0xFFFFFFFF#32

/-- The header of a frame (section 9.1). -/
def headerOf (kind tag bodyLength epoch x y : Nat) : List Byte :=
  beBytes 1 kind ++ beBytes 1 tag ++ beBytes 2 bodyLength ++ beBytes 4 epoch ++ beBytes 1 x ++ beBytes 1 y

/-- Header and body closed by their check value (section 9.1, R178). -/
def closeFrame (content : List Byte) : List Byte := content ++ beBytes 4 (crc32 content).toNat

/-- The bytes of a frame (section 9.1). -/
def frameBytes (kind tag epoch x y : Nat) (body : List Byte) : List Byte :=
  closeFrame (headerOf kind tag body.length epoch x y ++ body)

end Sys2Proof.Machine
end

