-- ==== Sys2Proof/Machine/State.lean ====
section
/-!
DEFINITION. The state of the part, one structure per block (00_scope.md, "Block diagram in words"), and its value at
power-on. INVENTORY.md lists every field with its rule.
-/

namespace Sys2Proof.Machine

/-! ## One value for each agent, one for each group -/

/-- Eight values of one kind, one for each agent number. -/
structure PerAgent (α : Type) where
  values : Vector α 8
deriving DecidableEq, Repr

/-- The value of agent `a`. -/
def PerAgent.get {α : Type} (p : PerAgent α) (a : AgentId) : α := p.values[a]

/-- `p` with agent `a`'s value replaced. -/
def PerAgent.set {α : Type} (p : PerAgent α) (a : AgentId) (x : α) : PerAgent α := ⟨p.values.set a x⟩

/-- `p` with agent `a`'s value changed by `f`. -/
def PerAgent.modify {α : Type} (p : PerAgent α) (a : AgentId) (f : α → α) : PerAgent α := p.set a (f (p.get a))

/-- The same value for each agent. -/
def PerAgent.const {α : Type} (x : α) : PerAgent α := ⟨Vector.replicate 8 x⟩

/-- The eight agent numbers in order. -/
def allAgents : List AgentId := [0, 1, 2, 3, 4, 5, 6, 7]

/-- One value for each of groups 0 and 1 (R118). -/
structure PerGroup (α : Type) where
  group0 : α
  group1 : α
deriving DecidableEq, Repr

/-- The value of group `g`. -/
def PerGroup.get {α : Type} (p : PerGroup α) (g : GroupId) : α := if g = 0 then p.group0 else p.group1

/-- `p` with group `g`'s value replaced. -/
def PerGroup.set {α : Type} (p : PerGroup α) (g : GroupId) (x : α) : PerGroup α :=
  if g = 0 then { p with group0 := x } else { p with group1 := x }

/-! ## Grant Table (Chapter 1) -/

/-- An extent: a first block and a count of blocks (R3). -/
structure Extent where
  start : Nat
  length : Nat
deriving DecidableEq, Repr

/-- The two modes of a lease (section 1.2). -/
inductive Mode where
  | shared
  | exclusive
deriving DecidableEq, Repr

/-- What a recall wants of the holder (R56). -/
inductive Wanted where
  | release
  | downgrade
deriving DecidableEq, Repr

/-- Which block asked for a recall (R56). -/
inductive RecallCause where
  | conflict
  | sweep
deriving DecidableEq, Repr

/-- A recall record (R56). -/
structure RecallRecord where
  wanted : Wanted
  cause : RecallCause
  attempts : Nat
  deadline : Nat
deriving DecidableEq, Repr

/-- A grant record (R7). Its state is RECALLING exactly when `recallRecord` is present (R8). -/
structure GrantRecord where
  slot : Nat
  token : Nat
  holder : AgentId
  epoch : Nat
  extent : Extent
  mode : Mode
  recallRecord : Option RecallRecord
  sweepPending : Bool
deriving DecidableEq, Repr

/-- The Grant Table: its records in index order (R13) and the grant counter (R15). -/
structure GrantTable where
  records : List GrantRecord
  counter : Nat
deriving DecidableEq, Repr

/-! ## Wait List (Chapter 2) -/

/-- The kind of a waiting request; a CONVERT names the slot of its subject record (R33). -/
inductive RequestKind where
  | acquire
  | convert (subject : Nat)
deriving DecidableEq, Repr

/-- Why a QUEUED entry waits (R33). -/
inductive BlockedBy where
  | earlier
  | barrier
  | noRecord
deriving DecidableEq, Repr

/-- The state of a wait entry (R33); blocked-by is present only when QUEUED. -/
inductive EntryState where
  | queued (blockedBy : BlockedBy)
  | recalling
deriving DecidableEq, Repr

/-- A wait entry (R33). Its arrival is its place in the list. -/
structure WaitEntry where
  agent : AgentId
  tag : Nat
  epoch : Nat
  kind : RequestKind
  extent : Extent
  mode : Mode
  deadline : Nat
  state : EntryState
deriving DecidableEq, Repr

/-! ## Recall Engine (Chapter 3) -/

/-- A RECALL message waiting in a send list (R62). It names its record by the token. -/
structure RecallMessage where
  token : Nat
  extent : Extent
  wanted : Wanted
  attempt : Nat
deriving DecidableEq, Repr

/-! ## Session Table (Chapter 4) -/

/-- The state of a session (R77); the session lease deadline is present only in ACTIVE. -/
inductive SessionState where
  | offline
  | active (leaseDeadline : Nat)
  | fenced
deriving DecidableEq, Repr

/-- The cause of an agent's most recent fencing (R77). -/
inductive FenceCause where
  | none
  | leaseExpired
  | recallTimeout
  | evicted
deriving DecidableEq, Repr

/-- An agent's seven counters (R100), in the order READ_COUNTERS gives them (R169). -/
structure AgentCounters where
  grantsIssued : Nat
  recallsIssued : Nat
  refusalsSent : Nat
  protocolErrors : Nat
  lateFrames : Nat
  linkCrcErrors : Nat
  fencings : Nat
deriving DecidableEq, Repr

/-- A session record (R77). -/
structure Session where
  state : SessionState
  epoch : Nat
  admitFlag : Bool
  recallWindow : Nat
  group : GroupId
  fenceCause : FenceCause
  counters : AgentCounters
deriving DecidableEq, Repr

/-! ## Sweep Engine (Chapter 5) -/

/-- The kinds of sweep (R102). -/
inductive SweepKind where
  | revoke
  | demote
  | census
deriving DecidableEq, Repr

/-- A place in index order (R105): just before or just after a position (start, slot). -/
inductive Cursor where
  | before (start slot : Nat)
  | after (start slot : Nat)
deriving DecidableEq, Repr

/-- The phase of an active sweep; the cursor is present only in SCANNING (R102). -/
inductive SweepPhase where
  | scanning (cursor : Cursor)
  | draining
deriving DecidableEq, Repr

/-- The seven tallies of a sweep (R116). -/
structure Tallies where
  examined : Nat
  recalled : Nat
  byRelease : Nat
  byDowngrade : Nat
  byFence : Nat
  censusShared : Nat
  censusExclusive : Nat
deriving DecidableEq, Repr

/-- An active sweep (R102). Its pending set is the records whose sweep-pending flag is set (R110). The agent mask
is one bit for each agent (section 9.3). -/
structure Sweep where
  id : Nat
  kind : SweepKind
  range : Extent
  mask : BitVec 8
  phase : SweepPhase
  tallies : Tallies
deriving DecidableEq, Repr

/-! ## Churn Monitor (Chapter 6) -/

/-- One entry of an outcome window (R121). -/
inductive ChurnOutcome where
  | voluntary
  | recalled
deriving DecidableEq, Repr

/-- The four settings of a group (R118): `window` is W and `threshold` is C. -/
structure GroupSettings where
  enable : Bool
  window : Nat
  threshold : Nat
  notify : Bool
deriving DecidableEq, Repr

/-- An agent's outcome window, oldest first (R121), and its churn alarm (R122). -/
structure ChurnMember where
  window : List ChurnOutcome
  alarm : Bool
deriving DecidableEq, Repr

/-- The Churn Monitor (R118, R121, R122). -/
structure ChurnMonitor where
  groups : PerGroup GroupSettings
  members : PerAgent ChurnMember
deriving DecidableEq, Repr

/-! ## Links (Chapters 7 and 8) -/

/-- The states of a link (R130). -/
inductive LinkState where
  | down
  | waitSync
  | run
deriving DecidableEq, Repr

/-- The causes a LINK_STATE report carries (R130). -/
inductive LinkCause where
  | signalFound
  | signalLost
  | crcError
  | framingError
  | creditOverrun
  | sync
deriving DecidableEq, Repr

/-- The answerable kinds of frame (section 9.2). -/
inductive AnswerableKind where
  | join
  | acquire
  | convert
  | query
  | leave
deriving DecidableEq, Repr

/-- The closing kinds of frame (section 9.2). -/
inductive ClosingKind where
  | release
  | downgrade
  | cancel
  | keepalive
deriving DecidableEq, Repr

/-- The kinds of the command class on LI-M (section 9.2). -/
inductive CommandKind where
  | configure
  | setParam
  | admitAgent
  | evict
  | pause
  | resume
  | sweepStart
  | sweepAbort
  | queryExtent
  | queryAgent
  | ackChurn
  | reportResume
  | readCounters
  | resetDirectory
  | reportAck
deriving DecidableEq, Repr

/-- A frame held in an ingress buffer, of a kind in class `κ` (R129, R153). Its credit fields were used or ignored
on arrival (R132, R154). -/
structure Frame (κ : Type) where
  kind : κ
  tag : Nat
  epoch : Nat
  body : List Byte
deriving DecidableEq, Repr

/-- One ingress class of a link: its buffer in arrival order and its two credit numbers (R137). -/
structure Ingress (κ : Type) where
  frames : List (Frame κ)
  outstanding : Nat
  toReturn : Nat
deriving DecidableEq, Repr

/-- A reply area: how many slots are RESERVED, and the FILLED ones in order of filling (R145). The rest are FREE.
DEDUCED, safe: slots are interchangeable (assumption 5). -/
structure ReplyArea (ρ : Type) where
  reserved : Nat
  filled : List ρ
deriving DecidableEq, Repr

/-- The refusal codes of a REFUSED reply (section 2.10). -/
inductive RefusalCode where
  | notReady
  | notAdmitted
  | fenced
  | notJoined
  | staleEpoch
  | badRequest
  | badExtent
  | selfOverlap
  | conflict
  | waitFull
  | tableFull
  | timedOut
  | cancelled
  | recalled
  | grantLost
  | unknownGrant
  | sessionEnded
  | directoryReset
deriving DecidableEq, Repr

/-- A query descriptor (R14): token, holder, mode, state (`recalling`) and extent. -/
structure Descriptor where
  token : Nat
  holder : AgentId
  mode : Mode
  recalling : Bool
  extent : Extent
deriving DecidableEq, Repr

/-- The final replies to an agent's request (section 9.4). -/
inductive AgentReply where
  | joined (epoch leasePeriod recallTimeout attemptLimit volume window : Nat)
  | granted (token : Nat) (extent : Extent) (mode : Mode)
  | converted (token : Nat) (mode : Mode)
  | queryResult (descriptors : List Descriptor) (more : Bool)
  | left
  | refused (code : RefusalCode)
deriving DecidableEq, Repr

/-- A reply placed in a slot, with the tag of its request (R29). -/
structure TaggedReply where
  tag : Nat
  reply : AgentReply
deriving DecidableEq, Repr

/-- The kinds of NOTICE, FENCED with its cause (R98). -/
inductive NoticeKind where
  | fenced (cause : FenceCause)
  | directoryReset
  | churnHigh
deriving DecidableEq, Repr

/-- A frame of an agent link's control lane (R144). -/
inductive ControlFrame where
  | syncAck (answerable closing : Nat)
  | notice (kind : NoticeKind) (epoch : Nat)
deriving DecidableEq, Repr

/-- A transmitter (R129, R147). BUSY carries the bytes of the frame on the line (assumption 6). -/
inductive Transmitter where
  | idle
  | busy (bytes : List Byte)
deriving DecidableEq, Repr

/-- The turn of an agent link's arbiter (R129). -/
inductive AgentTurn where
  | reply
  | recallLane
deriving DecidableEq, Repr

/-- An agent Link Interface (R129). -/
structure AgentLink where
  linkState : LinkState
  answerable : Ingress AnswerableKind
  closing : Ingress ClosingKind
  recallCredit : Nat
  replies : ReplyArea TaggedReply
  control : List ControlFrame
  transmitter : Transmitter
  turn : AgentTurn
deriving DecidableEq, Repr

/-- The statuses of a REPLY (R159). -/
inductive Status where
  | ok
  | wrongState
  | badParam
  | badAgent
  | badExtent
  | inUse
  | sweepBusy
  | noSweep
deriving DecidableEq, Repr

/-- The directory states (R160). -/
inductive DirectoryState where
  | unconfigured
  | running
  | paused
deriving DecidableEq, Repr

/-- The sweep state as the STATUS body gives it (R170). -/
inductive SweepStatus where
  | idle
  | scanning
  | draining
deriving DecidableEq, Repr

/-- LI-M's four counters (R153). -/
structure MgmtCounters where
  commandsTaken : Nat
  refusedReplies : Nat
  protocolErrors : Nat
  linkCrcErrors : Nat
deriving DecidableEq, Repr

/-- The session state as QUERY_AGENT gives it (R168). -/
inductive SessionStatus where
  | offline
  | active
  | fenced
deriving DecidableEq, Repr

/-- The QUERY_AGENT result (R168). -/
structure AgentInfo where
  session : SessionStatus
  epoch : Nat
  admitFlag : Bool
  fenceCause : FenceCause
  recordsHeld : Nat
  recallsOutstanding : Nat
  sweepRecalls : Nat
  messagesWaiting : Nat
  entriesWaiting : Nat
  linkState : LinkState
  group : GroupId
  windowLength : Nat
  recalledCount : Nat
  alarm : Bool
  group0Alarm : Bool
  group1Alarm : Bool
deriving DecidableEq, Repr

/-- The STATUS body (R170). -/
structure StatusBody where
  directory : DirectoryState
  recordCount : Nat
  entryCount : Nat
  sweep : SweepStatus
  suspended : Bool
  lost : Nat
  grantCounter : Nat
  group0Alarm : Bool
  group1Alarm : Bool
deriving DecidableEq, Repr

/-- What follows the status byte of a REPLY (section 9.5). -/
inductive MgmtResult where
  | empty
  | extent (descriptors : List Descriptor) (more : Bool)
  | agent (info : AgentInfo)
  | agentCounters (counters : AgentCounters)
  | mgmtCounters (counters : MgmtCounters) (status : StatusBody)
  | lost (count : Nat)
deriving DecidableEq, Repr

/-- A REPLY placed in a slot of LI-M (R157). -/
structure MgmtReply where
  tag : Nat
  status : Status
  result : MgmtResult
deriving DecidableEq, Repr

/-- The turn of LI-M's arbiter (R153). -/
inductive MgmtTurn where
  | reply
  | report
deriving DecidableEq, Repr

/-- LI-M (R153). Its control lane holds at most one SYNC_ACK, kept as the command credit it carries. -/
structure MgmtLink where
  linkState : LinkState
  command : Ingress CommandKind
  reportCredit : Nat
  replies : ReplyArea MgmtReply
  syncAck : Option Nat
  transmitter : Transmitter
  turn : MgmtTurn
  counters : MgmtCounters
deriving DecidableEq, Repr

/-! ## Report Queue and Management Service (Chapter 8) -/

/-- The protocol error kinds (section 9.7). -/
inductive ProtocolErrorKind where
  | badRelease
  | badDowngrade
  | badEpoch
  | unknownKind
  | badSync
  | badLength
deriving DecidableEq, Repr

/-- The status of a SWEEP_DONE report (R116). -/
inductive SweepEnd where
  | complete
  | aborted
deriving DecidableEq, Repr

/-- A report held in the Report Queue (section 9.6). -/
inductive Report where
  | fenced (agent : AgentId) (cause : FenceCause) (epoch records entries : Nat)
  | churnAlarm (agent : AgentId) (group : GroupId) (recalled length : Nat)
  | sweepDone (id : Nat) (status : SweepEnd) (tallies : Tallies)
  | protocolError (link : LinkId) (kind : ProtocolErrorKind) (code : Nat)
  | linkState (link : LinkId) (state : LinkState) (cause : LinkCause)
deriving DecidableEq, Repr

/-- The Report Queue (R173). The state is SUSPENDED when `suspended`. -/
structure ReportQueue where
  reports : List Report
  marker : Bool
  suspended : Bool
  lost : Nat
deriving DecidableEq, Repr

/-- The parameters the Management Service holds (section 8.4): V, L, T_r, N_r and the report window. -/
structure Params where
  volume : Nat
  leasePeriod : Nat
  recallTimeout : Nat
  attemptLimit : Nat
  reportWindow : Nat
deriving DecidableEq, Repr

/-- The Management Service (R160, section 8.4). -/
structure Management where
  state : DirectoryState
  params : Params
deriving DecidableEq, Repr

/-! ## The whole part -/

/-- The state of the part, one field per block, and the queue of waiting commands (the model's own). -/
structure State where
  timeBase : Nat
  grantTable : GrantTable
  waitList : List WaitEntry
  sendLists : PerAgent (List RecallMessage)
  sessions : PerAgent Session
  sweep : Option Sweep
  churn : ChurnMonitor
  reportQueue : ReportQueue
  management : Management
  agentLinks : PerAgent AgentLink
  mgmtLink : MgmtLink
  pending : List Instr
deriving DecidableEq, Repr

/-- The spec describes no event that stops the part: no fault exists, and no meaning answers with one. -/
inductive Fault
deriving DecidableEq, Repr

/-- Why a command has no outcome. -/
inductive Refusal where
  /-- Raised by exec's arm for a command without a meaning; every command has one, so nothing raises it (safe). -/
  | notModelled (mnemonic : String)
deriving DecidableEq, Repr

/-! ## Power-on values -/

/-- Counters at power-on (R77, R100). -/
def AgentCounters.zero : AgentCounters := ⟨0, 0, 0, 0, 0, 0, 0⟩

/-- LI-M's counters at power-on (R153). -/
def MgmtCounters.zero : MgmtCounters := ⟨0, 0, 0, 0⟩

/-- The tallies of a sweep just accepted (R104, R116). -/
def Tallies.zero : Tallies := ⟨0, 0, 0, 0, 0, 0, 0⟩

/-- An ingress class at power-on: empty, with no credit (R129, R137, R153). -/
def Ingress.empty {κ : Type} : Ingress κ := ⟨[], 0, 0⟩

/-- A reply area whose slots are all FREE (R129, R153). -/
def ReplyArea.empty {ρ : Type} : ReplyArea ρ := ⟨0, []⟩

/-- A session record at power-on (R77). -/
def Session.powerOn : Session :=
  { state := .offline, epoch := 0, admitFlag := false, recallWindow := 0, group := 0, fenceCause := .none,
    counters := .zero }

/-- A group's settings at power-on (R118). -/
def GroupSettings.powerOn : GroupSettings :=
  { enable := true, window := Config.powerOnWindow, threshold := Config.powerOnThreshold, notify := false }

/-- An agent link at power-on (R129). -/
def AgentLink.powerOn : AgentLink :=
  { linkState := .down, answerable := .empty, closing := .empty, recallCredit := 0, replies := .empty,
    control := [], transmitter := .idle, turn := .reply }

/-- LI-M at power-on (R153). -/
def MgmtLink.powerOn : MgmtLink :=
  { linkState := .down, command := .empty, reportCredit := 0, replies := .empty, syncAck := none,
    transmitter := .idle, turn := .reply, counters := .zero }

/-- The parameters at power-on (section 8.4). -/
def Params.powerOn : Params :=
  { volume := Config.powerOnVolume, leasePeriod := Config.powerOnLease,
    recallTimeout := Config.powerOnRecallTimeout, attemptLimit := Config.powerOnAttemptLimit,
    reportWindow := Config.powerOnReportWindow }

/-- The part right after power-on (R2, R27, R53, R75, R101, R117, R128, R151, R177), with no command waiting. -/
def State.reset : State :=
  { timeBase := 0
    grantTable := { records := [], counter := 0 }
    waitList := []
    sendLists := .const []
    sessions := .const .powerOn
    sweep := none
    churn := { groups := ⟨.powerOn, .powerOn⟩, members := .const ⟨[], false⟩ }
    reportQueue := { reports := [], marker := false, suspended := false, lost := 0 }
    management := { state := .unconfigured, params := .powerOn }
    agentLinks := .const .powerOn
    mgmtLink := .powerOn
    pending := [] }

end Sys2Proof.Machine
end

