-- ==== Sys2Proof/Machine/Codes.lean ====
section
/-!
DEFINITION. The numeric value of every code (sections 9.2, 9.3, 9.5 and 9.7).
-/

namespace Sys2Proof.Machine

/-! ## Kind codes (section 9.2, R179) -/

def kindSync : Nat := 0x01
def kindCredit : Nat := 0x41
def kindSyncAck : Nat := 0x42
def kindNotice : Nat := 0x43
def kindRecall : Nat := 0x61
def kindReply : Nat := 0xC1
def kindReport : Nat := 0xD1

/-- The answerable class of a kind code on an agent link (R179). -/
def AnswerableKind.ofCode : Nat → Option AnswerableKind
  | 0x11 => some .join
  | 0x12 => some .acquire
  | 0x13 => some .convert
  | 0x14 => some .query
  | 0x15 => some .leave
  | _ => none

/-- The closing class of a kind code on an agent link (R179). -/
def ClosingKind.ofCode : Nat → Option ClosingKind
  | 0x21 => some .release
  | 0x22 => some .downgrade
  | 0x23 => some .cancel
  | 0x24 => some .keepalive
  | _ => none

/-- The kind code of a closing frame (section 9.2). -/
def ClosingKind.code : ClosingKind → Nat
  | .release => 0x21
  | .downgrade => 0x22
  | .cancel => 0x23
  | .keepalive => 0x24

/-- The command class of a kind code on LI-M (R179). -/
def CommandKind.ofCode : Nat → Option CommandKind
  | 0x81 => some .configure
  | 0x82 => some .setParam
  | 0x83 => some .admitAgent
  | 0x84 => some .evict
  | 0x85 => some .pause
  | 0x86 => some .resume
  | 0x87 => some .sweepStart
  | 0x88 => some .sweepAbort
  | 0x89 => some .queryExtent
  | 0x8A => some .queryAgent
  | 0x8B => some .ackChurn
  | 0x8C => some .reportResume
  | 0x8D => some .readCounters
  | 0x8E => some .resetDirectory
  | 0xA1 => some .reportAck
  | _ => none

/-- The kind code of REPORT_ACK, for its PROTOCOL_ERROR report (R182). -/
def kindReportAck : Nat := 0xA1

/-- The kind code of a reply to an agent (section 9.2). -/
def AgentReply.kindCode : AgentReply → Nat
  | .joined .. => 0x51
  | .granted .. => 0x52
  | .converted .. => 0x53
  | .queryResult .. => 0x54
  | .left => 0x55
  | .refused _ => 0x5F

/-! ## Field codes (sections 9.3 and 9.5) -/

def Mode.code : Mode → Nat
  | .shared => 0x01
  | .exclusive => 0x02

/-- A mode byte; every other value is invalid (R180). -/
def Mode.ofCode : Nat → Option Mode
  | 0x01 => some .shared
  | 0x02 => some .exclusive
  | _ => none

def Wanted.code : Wanted → Nat
  | .release => 0x01
  | .downgrade => 0x02

/-- The record state byte: HELD or RECALLING. -/
def recordStateCode (recalling : Bool) : Nat := if recalling then 0x02 else 0x01

def flagCode (b : Bool) : Nat := if b then 0x01 else 0x00

/-- A sweep kind byte; every other value is invalid (R182). -/
def SweepKind.ofCode : Nat → Option SweepKind
  | 0x01 => some .revoke
  | 0x02 => some .demote
  | 0x03 => some .census
  | _ => none

def linkCode : LinkId → Nat
  | .agent a => a.val
  | .mgmt => 8

/-! ## Code values (section 9.7) -/

def RefusalCode.code : RefusalCode → Nat
  | .notReady => 0x01
  | .notAdmitted => 0x02
  | .fenced => 0x03
  | .notJoined => 0x04
  | .staleEpoch => 0x05
  | .badRequest => 0x06
  | .badExtent => 0x07
  | .selfOverlap => 0x08
  | .conflict => 0x09
  | .waitFull => 0x0A
  | .tableFull => 0x0B
  | .timedOut => 0x0C
  | .cancelled => 0x0D
  | .recalled => 0x0E
  | .grantLost => 0x0F
  | .unknownGrant => 0x10
  | .sessionEnded => 0x11
  | .directoryReset => 0x12

def Status.code : Status → Nat
  | .ok => 0x00
  | .wrongState => 0x01
  | .badParam => 0x02
  | .badAgent => 0x03
  | .badExtent => 0x04
  | .inUse => 0x05
  | .sweepBusy => 0x06
  | .noSweep => 0x07

def FenceCause.code : FenceCause → Nat
  | .none => 0x00
  | .leaseExpired => 0x01
  | .recallTimeout => 0x02
  | .evicted => 0x03

/-- The notice kind byte and the cause byte: the fence cause for FENCED and 0 for the others (section 9.4). -/
def NoticeKind.codes : NoticeKind → Nat × Nat
  | .fenced cause => (0x01, cause.code)
  | .directoryReset => (0x02, 0x00)
  | .churnHigh => (0x03, 0x00)

def ProtocolErrorKind.code : ProtocolErrorKind → Nat
  | .badRelease => 0x01
  | .badDowngrade => 0x02
  | .badEpoch => 0x03
  | .unknownKind => 0x04
  | .badSync => 0x05
  | .badLength => 0x06

def SweepEnd.code : SweepEnd → Nat
  | .complete => 0x01
  | .aborted => 0x02

def SessionStatus.code : SessionStatus → Nat
  | .offline => 0x00
  | .active => 0x01
  | .fenced => 0x02

def LinkState.code : LinkState → Nat
  | .down => 0x00
  | .waitSync => 0x01
  | .run => 0x02

def LinkCause.code : LinkCause → Nat
  | .signalFound => 0x01
  | .signalLost => 0x02
  | .crcError => 0x03
  | .framingError => 0x04
  | .creditOverrun => 0x05
  | .sync => 0x06

def DirectoryState.code : DirectoryState → Nat
  | .unconfigured => 0x00
  | .running => 0x01
  | .paused => 0x02

def SweepStatus.code : SweepStatus → Nat
  | .idle => 0x00
  | .scanning => 0x01
  | .draining => 0x02

/-- The report kind OVERFLOW (section 9.7). -/
def reportOverflowCode : Nat := 0x06

end Sys2Proof.Machine
end

