-- ==== Sys2Proof/Machine/Messages.lean ====
section
/-!
DEFINITION. The bodies of the messages the directory sends (sections 9.4, 9.5 and 9.6).
-/

namespace Sys2Proof.Machine

def extentBytes (e : Extent) : List Byte := beBytes 6 e.start ++ beBytes 3 e.length

/-- A query descriptor: token, holder, mode, state, extent; 20 bytes (section 9.4). -/
def Descriptor.bytes (d : Descriptor) : List Byte :=
  beBytes 8 d.token ++ beBytes 1 d.holder.val ++ beBytes 1 d.mode.code ++ beBytes 1 (recordStateCode d.recalling) ++
    extentBytes d.extent

/-- Descriptor count, more flag and descriptors (QUERY_RESULT, and QUERY_EXTENT's result). -/
def descriptorBytes (ds : List Descriptor) (more : Bool) : List Byte :=
  beBytes 1 ds.length ++ beBytes 1 (flagCode more) ++ ds.flatMap Descriptor.bytes

/-- The body of a reply to an agent (section 9.4). -/
def AgentReply.body : AgentReply → List Byte
  | .joined epoch leasePeriod recallTimeout attemptLimit volume window =>
    beBytes 4 epoch ++ beBytes 2 leasePeriod ++ beBytes 2 recallTimeout ++ beBytes 1 attemptLimit ++
      beBytes 8 volume ++ beBytes 1 window
  | .granted token extent mode => beBytes 8 token ++ extentBytes extent ++ beBytes 1 mode.code
  | .converted token mode => beBytes 8 token ++ beBytes 1 mode.code
  | .queryResult descriptors more => descriptorBytes descriptors more
  | .left => []
  | .refused code => beBytes 1 code.code

/-- The kind code of a control frame (section 9.2). -/
def ControlFrame.kindCode : ControlFrame → Nat
  | .syncAck _ _ => kindSyncAck
  | .notice _ _ => kindNotice

/-- The body of a control frame (section 9.4). -/
def ControlFrame.body : ControlFrame → List Byte
  | .syncAck answerable closing => beBytes 1 answerable ++ beBytes 1 closing
  | .notice kind epoch => beBytes 1 kind.codes.1 ++ beBytes 1 kind.codes.2 ++ beBytes 4 epoch

/-- The body of a RECALL (section 9.4). -/
def RecallMessage.body (m : RecallMessage) : List Byte :=
  beBytes 8 m.token ++ extentBytes m.extent ++ beBytes 1 m.wanted.code ++ beBytes 1 m.attempt

def AgentCounters.bytes (c : AgentCounters) : List Byte :=
  beBytes 4 c.grantsIssued ++ beBytes 4 c.recallsIssued ++ beBytes 4 c.refusalsSent ++ beBytes 4 c.protocolErrors ++
    beBytes 4 c.lateFrames ++ beBytes 4 c.linkCrcErrors ++ beBytes 4 c.fencings

def MgmtCounters.bytes (c : MgmtCounters) : List Byte :=
  beBytes 4 c.commandsTaken ++ beBytes 4 c.refusedReplies ++ beBytes 4 c.protocolErrors ++ beBytes 4 c.linkCrcErrors

/-- The QUERY_AGENT result, 23 bytes (section 9.5). -/
def AgentInfo.bytes (n : AgentInfo) : List Byte :=
  beBytes 1 n.session.code ++ beBytes 4 n.epoch ++ beBytes 1 (flagCode n.admitFlag) ++ beBytes 1 n.fenceCause.code ++
    beBytes 2 n.recordsHeld ++ beBytes 2 n.recallsOutstanding ++ beBytes 2 n.sweepRecalls ++
    beBytes 2 n.messagesWaiting ++ beBytes 1 n.entriesWaiting ++ beBytes 1 n.linkState.code ++
    beBytes 1 n.group.val ++ beBytes 1 n.windowLength ++ beBytes 1 n.recalledCount ++
    beBytes 1 (flagCode n.alarm) ++ beBytes 1 (flagCode n.group0Alarm) ++ beBytes 1 (flagCode n.group1Alarm)

/-- The STATUS body, 20 bytes (section 9.5). -/
def StatusBody.bytes (n : StatusBody) : List Byte :=
  beBytes 1 n.directory.code ++ beBytes 2 n.recordCount ++ beBytes 1 n.entryCount ++ beBytes 1 n.sweep.code ++
    beBytes 1 (flagCode n.suspended) ++ beBytes 4 n.lost ++ beBytes 8 n.grantCounter ++
    beBytes 1 (flagCode n.group0Alarm) ++ beBytes 1 (flagCode n.group1Alarm)

/-- What follows the status byte of a REPLY (section 9.5). -/
def MgmtResult.bytes : MgmtResult → List Byte
  | .empty => []
  | .extent descriptors more => descriptorBytes descriptors more
  | .agent info => info.bytes
  | .agentCounters counters => counters.bytes
  | .mgmtCounters counters status => counters.bytes ++ status.bytes
  | .lost count => beBytes 4 count

/-- The body of a REPLY (section 9.5). -/
def MgmtReply.body (r : MgmtReply) : List Byte := beBytes 1 r.status.code ++ r.result.bytes

def Tallies.bytes (t : Tallies) : List Byte :=
  beBytes 4 t.examined ++ beBytes 4 t.recalled ++ beBytes 4 t.byRelease ++ beBytes 4 t.byDowngrade ++
    beBytes 4 t.byFence ++ beBytes 4 t.censusShared ++ beBytes 4 t.censusExclusive

/-- The body of a REPORT (section 9.6). -/
def Report.body : Report → List Byte
  | .fenced agent cause epoch records entries =>
    beBytes 1 0x01 ++ beBytes 1 agent.val ++ beBytes 1 cause.code ++ beBytes 4 epoch ++ beBytes 2 records ++
      beBytes 1 entries
  | .churnAlarm agent group recalled length =>
    beBytes 1 0x02 ++ beBytes 1 agent.val ++ beBytes 1 group.val ++ beBytes 1 recalled ++ beBytes 1 length
  | .sweepDone id status tallies =>
    beBytes 1 0x03 ++ beBytes 2 id ++ beBytes 1 status.code ++ tallies.bytes
  | .protocolError link kind code =>
    beBytes 1 0x04 ++ beBytes 1 (linkCode link) ++ beBytes 1 kind.code ++ beBytes 1 code
  | .linkState link state cause =>
    beBytes 1 0x05 ++ beBytes 1 (linkCode link) ++ beBytes 1 state.code ++ beBytes 1 cause.code

/-- The body of the REPORT of kind OVERFLOW (R175, section 9.6). -/
def overflowBody (lost : Nat) : List Byte := beBytes 1 reportOverflowCode ++ beBytes 4 lost

end Sys2Proof.Machine
end

