-- ==== Sys2Proof/Machine/Operands.lean ====
section
/-!
DEFINITION. What a command reads: the link-level checks of an arriving frame (R132), the class of its kind (R179), and
the fields of each body (sections 9.4 and 9.5, R180 to R182).
-/

namespace Sys2Proof.Machine

/-! ## An arriving frame -/

/-- The fields of a well-formed frame (section 9.1). The header field Y is not read in either direction of ingress. -/
structure RawFrame where
  kind : Nat
  tag : Nat
  epoch : Nat
  creditX : Nat
  body : List Byte
deriving DecidableEq, Repr

/-- What checks 1 to 3 of R132 find. -/
inductive FrameCheck where
  | framingFault
  | crcFailure
  | wellFormed (frame : RawFrame)
deriving DecidableEq, Repr

/-- Checks 1 to 3 of R132: size, then CRC, then body length. -/
def checkFrame (bytes : List Byte) : FrameCheck :=
  if bytes.length < Config.headerBytes + Config.checkBytes ∨
      Config.headerBytes + Config.maxBody + Config.checkBytes < bytes.length then .framingFault
  else
    let content := bytes.take (bytes.length - Config.checkBytes)
    let check := bytes.drop (bytes.length - Config.checkBytes)
    let body := content.drop Config.headerBytes
    let bodyLength := field content 2 2
    if (crc32 content).toNat ≠ beNat check then .crcFailure
    else if Config.maxBody < bodyLength ∨ bodyLength ≠ body.length then .framingFault
    else .wellFormed
      { kind := field content 0 1, tag := field content 1 1, epoch := field content 4 4,
        creditX := field content 8 1, body := body }

/-- The class of a kind code on an agent link (R179). -/
inductive AgentClass where
  | sync
  | answerable (kind : AnswerableKind)
  | closing (kind : ClosingKind)
  | unknown
deriving DecidableEq, Repr

/-- R179 for LI-A0 to LI-A7. -/
def agentClass (code : Nat) : AgentClass :=
  if code = kindSync then .sync
  else match AnswerableKind.ofCode code with
    | some k => .answerable k
    | none =>
      match ClosingKind.ofCode code with
      | some k => .closing k
      | none => .unknown

/-- The class of a kind code on LI-M (R179). -/
inductive MgmtClass where
  | sync
  | command (kind : CommandKind)
  | unknown
deriving DecidableEq, Repr

/-- R179 for LI-M. -/
def mgmtClass (code : Nat) : MgmtClass :=
  if code = kindSync then .sync
  else match CommandKind.ofCode code with
    | some k => .command k
    | none => .unknown

/-! ## Bodies of agent frames (section 9.4) -/

/-- An extent at an offset: start in 6 bytes, length in 3 (section 9.3). -/
def extentField (body : List Byte) (offset : Nat) : Extent :=
  { start := field body offset 6, length := field body (offset + 6) 3 }

/-- JOIN's requested window, absent where R180 finds the body bad. -/
def joinWindow (body : List Byte) : Option Nat :=
  if body.length = 1 ∧ 1 ≤ field body 0 1 ∧ field body 0 1 ≤ Config.maxRecallWindow then some (field body 0 1)
  else none

structure AcquireFields where
  extent : Extent
  mode : Mode
  maxWait : Nat
deriving DecidableEq, Repr

/-- ACQUIRE's fields, absent where R180 finds the body bad. -/
def acquireFields (body : List Byte) : Option AcquireFields :=
  if body.length = 12 then
    (Mode.ofCode (field body 9 1)).map fun m =>
      { extent := extentField body 0, mode := m, maxWait := field body 10 2 }
  else none

structure ConvertFields where
  token : Nat
  mode : Mode
  maxWait : Nat
deriving DecidableEq, Repr

/-- CONVERT's fields, absent where R180 finds the body bad. -/
def convertFields (body : List Byte) : Option ConvertFields :=
  if body.length = 11 then
    (Mode.ofCode (field body 8 1)).map fun m =>
      { token := field body 0 8, mode := m, maxWait := field body 9 2 }
  else none

structure QueryFields where
  extent : Extent
  resumeAt : Nat
deriving DecidableEq, Repr

/-- The fields of QUERY and of QUERY_EXTENT, absent where the body length is wrong (R180, R182). -/
def queryFields (body : List Byte) : Option QueryFields :=
  if body.length = 15 then some { extent := extentField body 0, resumeAt := field body 9 6 } else none

/-- The body length a closing kind needs (R181). -/
def ClosingKind.bodyLength : ClosingKind → Nat
  | .release => 8
  | .downgrade => 8
  | .cancel => 0
  | .keepalive => 0

/-- The token of RELEASE and DOWNGRADE (section 9.4). -/
def tokenField (body : List Byte) : Nat := field body 0 8

/-! ## Bodies of management commands (section 9.5) -/

/-- A group's four setting bytes at an offset: enable, W, C, notify. -/
structure GroupFields where
  enable : Nat
  window : Nat
  threshold : Nat
  notify : Nat
deriving DecidableEq, Repr

def groupFields (body : List Byte) (offset : Nat) : GroupFields :=
  { enable := field body offset 1, window := field body (offset + 1) 1, threshold := field body (offset + 2) 1,
    notify := field body (offset + 3) 1 }

/-- A group's bytes lie in their ranges (R118, R182). -/
def GroupFields.inRange (g : GroupFields) : Bool :=
  g.enable ≤ 1 && g.notify ≤ 1 && 1 ≤ g.window && g.window ≤ 64 && 1 ≤ g.threshold && g.threshold ≤ g.window

def GroupFields.settings (g : GroupFields) : GroupSettings :=
  { enable := g.enable = 1, window := g.window, threshold := g.threshold, notify := g.notify = 1 }

/-- Ranges of L, T_r, N_r and V (section 8.4). -/
def leaseInRange (n : Nat) : Bool := 50 ≤ n && n ≤ 60000
def recallTimeoutInRange (n : Nat) : Bool := 5 ≤ n && n ≤ 10000
def attemptLimitInRange (n : Nat) : Bool := 1 ≤ n && n ≤ 8
def volumeInRange (n : Nat) : Bool := 1 ≤ n && n ≤ Config.blockLimit
def reportWindowInRange (n : Nat) : Bool := 1 ≤ n && n ≤ 16

/-- The group byte CONFIGURE gives an agent. -/
def configGroupByte (body : List Byte) (a : AgentId) : Nat := field body (15 + a.val) 1

structure ConfigureFields where
  params : Params
  admitMask : BitVec 8
  groupOf : PerAgent GroupId
  groups : PerGroup GroupSettings
  tokenFloor : Nat
deriving DecidableEq, Repr

/-- CONFIGURE's fields, absent where R162 and R182 answer BAD_PARAM. -/
def configureFields (body : List Byte) : Option ConfigureFields :=
  let params : Params :=
    { volume := field body 0 8, leasePeriod := field body 8 2, recallTimeout := field body 10 2,
      attemptLimit := field body 12 1, reportWindow := field body 13 1 }
  let g0 := groupFields body 23
  let g1 := groupFields body 27
  if body.length = 39 ∧ volumeInRange params.volume ∧ leaseInRange params.leasePeriod ∧
      recallTimeoutInRange params.recallTimeout ∧ attemptLimitInRange params.attemptLimit ∧
      reportWindowInRange params.reportWindow ∧ (allAgents.all fun a => configGroupByte body a ≤ 1) ∧
      g0.inRange ∧ g1.inRange then
    some
      { params := params
        admitMask := BitVec.ofNat 8 (field body 14 1)
        groupOf := allAgents.foldl
          (fun p a => p.set a (if configGroupByte body a = 1 then 1 else 0)) (PerAgent.const 0)
        groups := ⟨g0.settings, g1.settings⟩
        tokenFloor := field body 31 8 }
  else none

/-- SET_PARAM's three fields as carried (section 9.5). -/
structure SetParamFields where
  identifier : Nat
  selector : Nat
  value : Nat
deriving DecidableEq, Repr

/-- SET_PARAM's fields, absent where the body length is wrong (R163 test 2). -/
def setParamFields (body : List Byte) : Option SetParamFields :=
  if body.length = 10 then
    some { identifier := field body 0 1, selector := field body 1 1, value := field body 2 8 }
  else none

/-- The one byte of ADMIT, EVICT, QUERY_AGENT and ACK_CHURN, absent where the body length is wrong (R165, R168). -/
def agentByte (body : List Byte) : Option Nat := if body.length = 1 then some (field body 0 1) else none

structure SweepStartFields where
  id : Nat
  kindByte : Nat
  range : Extent
  mask : BitVec 8
deriving DecidableEq, Repr

/-- SWEEP_START's fields, absent where the body length is wrong (R166). -/
def sweepStartFields (body : List Byte) : Option SweepStartFields :=
  if body.length = 13 then
    some { id := field body 0 2, kindByte := field body 2 1, range := extentField body 3,
           mask := BitVec.ofNat 8 (field body 12 1) }
  else none

/-- READ_COUNTERS' agent byte and clear flag byte, absent where the body length is wrong (R169). -/
def readCountersFields (body : List Byte) : Option (Nat × Nat) :=
  if body.length = 2 then some (field body 0 1, field body 1 1) else none

end Sys2Proof.Machine
end

