-- ==== Sys2Proof/Machine/Ops.lean ====
section
/-!
DEFINITION. The named operations every block's rules are written over: access to one agent's part of a block,
counters, the Report Queue, the control lane, the reply areas, the credit accounts and the link transitions.
-/

namespace Sys2Proof.Machine

/-! ## Reading and changing one agent's part of a block -/

/-- Agent `a`'s session record (R77). -/
def State.session (s : State) (a : AgentId) : Session := s.sessions.get a

/-- LI-An (R129). -/
def State.link (s : State) (a : AgentId) : AgentLink := s.agentLinks.get a

/-- Agent `a`'s recall send list (R62). -/
def State.sendList (s : State) (a : AgentId) : List RecallMessage := s.sendLists.get a

/-- Agent `a`'s window and alarm (R121, R122). -/
def State.member (s : State) (a : AgentId) : ChurnMember := s.churn.members.get a

/-- The settings in force for agent `a`: those of its group (R119). -/
def State.settings (s : State) (a : AgentId) : GroupSettings := s.churn.groups.get (s.session a).group

/-- The parameters in force (section 8.4). -/
def State.params (s : State) : Params := s.management.params

def State.modSession (s : State) (a : AgentId) (f : Session → Session) : State :=
  { s with sessions := s.sessions.modify a f }

def State.modLink (s : State) (a : AgentId) (f : AgentLink → AgentLink) : State :=
  { s with agentLinks := s.agentLinks.modify a f }

def State.modSendList (s : State) (a : AgentId) (f : List RecallMessage → List RecallMessage) : State :=
  { s with sendLists := s.sendLists.modify a f }

def State.modMember (s : State) (a : AgentId) (f : ChurnMember → ChurnMember) : State :=
  { s with churn := { s.churn with members := s.churn.members.modify a f } }

def State.modMgmt (s : State) (f : MgmtLink → MgmtLink) : State := { s with mgmtLink := f s.mgmtLink }

def State.setRecords (s : State) (records : List GrantRecord) : State :=
  { s with grantTable := { s.grantTable with records := records } }

def State.setWaitList (s : State) (entries : List WaitEntry) : State := { s with waitList := entries }

/-- Change the record in a slot, if there is one. -/
def State.modRecord (s : State) (slot : Nat) (f : GrantRecord → GrantRecord) : State :=
  s.setRecords (s.grantTable.records.map fun r => if r.slot = slot then f r else r)

/-- The record in a slot. -/
def State.recordAt (s : State) (slot : Nat) : Option GrantRecord :=
  s.grantTable.records.find? fun r => r.slot = slot

/-! ## Counters -/

/-- One more, for a counter that stops at 2^32 − 1 (R100, R116, R169, R173). -/
def countUp (n : Nat) : Nat := if n < Config.counterMax then n + 1 else n

/-- Change agent `a`'s counters. -/
def State.modCounters (s : State) (a : AgentId) (f : AgentCounters → AgentCounters) : State :=
  s.modSession a fun x => { x with counters := f x.counters }

def AgentCounters.addGrant (c : AgentCounters) : AgentCounters := { c with grantsIssued := countUp c.grantsIssued }
def AgentCounters.addRecall (c : AgentCounters) : AgentCounters := { c with recallsIssued := countUp c.recallsIssued }
def AgentCounters.addRefusal (c : AgentCounters) : AgentCounters := { c with refusalsSent := countUp c.refusalsSent }
def AgentCounters.addProtocolError (c : AgentCounters) : AgentCounters :=
  { c with protocolErrors := countUp c.protocolErrors }
def AgentCounters.addLate (c : AgentCounters) : AgentCounters := { c with lateFrames := countUp c.lateFrames }
def AgentCounters.addCrcError (c : AgentCounters) : AgentCounters :=
  { c with linkCrcErrors := countUp c.linkCrcErrors }
def AgentCounters.addFencing (c : AgentCounters) : AgentCounters := { c with fencings := countUp c.fencings }

/-- Change LI-M's counters. -/
def State.modMgmtCounters (s : State) (f : MgmtCounters → MgmtCounters) : State :=
  s.modMgmt fun l => { l with counters := f l.counters }

def MgmtCounters.addCommand (c : MgmtCounters) : MgmtCounters := { c with commandsTaken := countUp c.commandsTaken }
def MgmtCounters.addRefused (c : MgmtCounters) : MgmtCounters := { c with refusedReplies := countUp c.refusedReplies }
def MgmtCounters.addProtocolError (c : MgmtCounters) : MgmtCounters :=
  { c with protocolErrors := countUp c.protocolErrors }
def MgmtCounters.addCrcError (c : MgmtCounters) : MgmtCounters := { c with linkCrcErrors := countUp c.linkCrcErrors }

/-- A late frame: counted, not reported (R31). -/
def State.lateFrame (s : State) (a : AgentId) : State := s.modCounters a AgentCounters.addLate

/-! ## Report Queue -/

/-- Append a report (R173, R174). -/
def ReportQueue.append (q : ReportQueue) (r : Report) : ReportQueue :=
  if q.suspended then { q with lost := countUp q.lost }
  else if q.reports.length < Config.reportCapacity then { q with reports := q.reports ++ [r] }
  else { q with marker := true, suspended := true, lost := 1 }

/-- A block appends a report to the Report Queue (R173). -/
def State.report (s : State) (r : Report) : State := { s with reportQueue := s.reportQueue.append r }

/-- A protocol error of an agent: counted and reported (R20). -/
def State.protocolError (s : State) (a : AgentId) (kind : ProtocolErrorKind) (code : Nat) : State :=
  (s.modCounters a AgentCounters.addProtocolError).report (.protocolError (.agent a) kind code)

/-- A protocol error on LI-M: counted and reported (R154, R182). -/
def State.mgmtProtocolError (s : State) (kind : ProtocolErrorKind) (code : Nat) : State :=
  (s.modMgmtCounters MgmtCounters.addProtocolError).report (.protocolError .mgmt kind code)

/-! ## Control lane -/

def ControlFrame.isNotice : ControlFrame → Bool
  | .notice _ _ => true
  | .syncAck _ _ => false

/-- A NOTICE joins the tail; while 16 wait, the oldest of them is discarded (R144). -/
def addNotice (lane : List ControlFrame) (kind : NoticeKind) (epoch : Nat) : List ControlFrame :=
  (if Config.noticeCapacity ≤ lane.countP ControlFrame.isNotice then lane.eraseP ControlFrame.isNotice else lane)
    ++ [.notice kind epoch]

/-- Place a NOTICE in agent `a`'s control lane (R98, R144). -/
def State.placeNotice (s : State) (a : AgentId) (kind : NoticeKind) (epoch : Nat) : State :=
  s.modLink a fun l => { l with control := addNotice l.control kind epoch }

/-- A SYNC_ACK replaces the waiting one in its place, or joins the tail (R143). -/
def addSyncAck (lane : List ControlFrame) (answerable closing : Nat) : List ControlFrame :=
  if lane.all ControlFrame.isNotice then lane ++ [.syncAck answerable closing]
  else lane.map fun c => if c.isNotice then c else .syncAck answerable closing

/-! ## Reply areas -/

/-- A slot is FREE (R140, R157). -/
def ReplyArea.hasFree {ρ : Type} (r : ReplyArea ρ) (slots : Nat) : Bool := r.reserved + r.filled.length < slots

/-- A FREE slot becomes RESERVED (R145). -/
def ReplyArea.reserve {ρ : Type} (r : ReplyArea ρ) : ReplyArea ρ := { r with reserved := r.reserved + 1 }

/-- A RESERVED slot becomes FILLED and its reply joins the tail of the reply lane (R145). -/
def ReplyArea.place {ρ : Type} (r : ReplyArea ρ) (x : ρ) : ReplyArea ρ :=
  { reserved := r.reserved - 1, filled := r.filled ++ [x] }

/-- The head of the reply lane is sent and its slot becomes FREE (R145). -/
def ReplyArea.sendHead {ρ : Type} (r : ReplyArea ρ) : ReplyArea ρ := { r with filled := r.filled.tail }

/-- Place a final reply to agent `a`'s request in its reserved slot (R29). -/
def State.placeReply (s : State) (a : AgentId) (tag : Nat) (reply : AgentReply) : State :=
  s.modLink a fun l => { l with replies := l.replies.place { tag := tag, reply := reply } }

/-- Answer agent `a`'s request with REFUSED (R29). -/
def State.refuse (s : State) (a : AgentId) (tag : Nat) (code : RefusalCode) : State :=
  s.placeReply a tag (.refused code)

/-- Place a REPLY in its reserved slot of LI-M (R157). -/
def State.placeMgmtReply (s : State) (r : MgmtReply) : State :=
  s.modMgmt fun l => { l with replies := l.replies.place r }

/-! ## Credit accounts (R137) -/

/-- A frame of the class arrives and is buffered. -/
def Ingress.buffer {κ : Type} (g : Ingress κ) (f : Frame κ) : Ingress κ :=
  { g with frames := g.frames ++ [f], outstanding := g.outstanding - 1 }

/-- The frame at the head is taken. -/
def Ingress.takeHead {κ : Type} (g : Ingress κ) : Ingress κ :=
  { g with frames := g.frames.tail, toReturn := g.toReturn + 1 }

/-- A frame of unknown kind, charged to the class, is discarded unbuffered (R136). -/
def Ingress.discardArrival {κ : Type} (g : Ingress κ) : Ingress κ :=
  { g with outstanding := g.outstanding - 1, toReturn := g.toReturn + 1 }

/-- Every buffered frame is discarded by a fencing (R150). -/
def Ingress.discardAll {κ : Type} (g : Ingress κ) : Ingress κ :=
  { g with frames := [], toReturn := g.toReturn + g.frames.length }

/-- A frame is sent carrying the returns in its header (R138). -/
def Ingress.giveBack {κ : Type} (g : Ingress κ) : Ingress κ :=
  { g with outstanding := g.outstanding + g.toReturn, toReturn := 0 }

/-- A good SYNC rebuilds the class from the frames still held (R142). -/
def Ingress.rebuild {κ : Type} (g : Ingress κ) (capacity : Nat) : Ingress κ :=
  { g with outstanding := capacity - g.frames.length, toReturn := 0 }

/-! ## Link transitions (R130, R131) -/

/-- A link leaves RUN or WAIT_SYNC: a transmission under way is cut off (R131, R147). -/
def AgentLink.stop (l : AgentLink) (state : LinkState) : AgentLink :=
  { l with linkState := state, transmitter := .idle }

def MgmtLink.stop (l : MgmtLink) (state : LinkState) : MgmtLink :=
  { l with linkState := state, transmitter := .idle }

/-- A link enters RUN: the turn is set to REPLY (R130). -/
def AgentLink.enterRun (l : AgentLink) : AgentLink := { l with linkState := .run, turn := .reply }

def MgmtLink.enterRun (l : MgmtLink) : MgmtLink := { l with linkState := .run, turn := .reply }

/-- A CRC failure, framing fault or overrun in RUN sends LI-An to WAIT_SYNC (R130, R134, R135). -/
def State.linkError (s : State) (a : AgentId) (cause : LinkCause) : State :=
  (s.modLink a fun l => l.stop .waitSync).report (.linkState (.agent a) .waitSync cause)

/-- The same on LI-M (R154). -/
def State.mgmtLinkError (s : State) (cause : LinkCause) : State :=
  (s.modMgmt fun l => l.stop .waitSync).report (.linkState .mgmt .waitSync cause)

/-! ## Session lease -/

/-- A frame taken with epoch `epoch` renews the lease of an ACTIVE session of that epoch (R87). -/
def State.renewLease (s : State) (a : AgentId) (epoch : Nat) : State :=
  match (s.session a).state with
  | .active _ =>
    if epoch = (s.session a).epoch then
      s.modSession a fun x => { x with state := .active (s.timeBase + s.params.leasePeriod) }
    else s
  | _ => s

end Sys2Proof.Machine
end

