-- ==== Sys2Proof/Machine/AgentLinks.lean ====
section
/-!
DEFINITION. The agent links (Chapter 7): signal, arrival and its errors, SYNC, the arbiter and the sends. Signal and the
end of a transmission are here for LI-M too (R153, R158).
-/

namespace Sys2Proof.Machine

/-! ## Signal (R130, R131) -/

/-- SIGNAL_FOUND on a link that is DOWN; a link that is not DOWN has signal already (assumption 2). -/
def State.signalFound (s : State) (link : LinkId) : State :=
  match link with
  | .agent a =>
    if (s.link a).linkState = .down then
      (s.modLink a fun l => { l with linkState := .waitSync }).report (.linkState link .waitSync .signalFound)
    else s
  | .mgmt =>
    if s.mgmtLink.linkState = .down then
      (s.modMgmt fun l => { l with linkState := .waitSync }).report (.linkState link .waitSync .signalFound)
    else s

/-- SIGNAL_LOST on a link that is not DOWN. -/
def State.signalLost (s : State) (link : LinkId) : State :=
  match link with
  | .agent a =>
    if (s.link a).linkState = .down then s
    else (s.modLink a fun l => l.stop .down).report (.linkState link .down .signalLost)
  | .mgmt =>
    if s.mgmtLink.linkState = .down then s
    else (s.modMgmt fun l => l.stop .down).report (.linkState link .down .signalLost)

/-- SIGNAL_FOUND (R130). -/
def execSignalFound (link : LinkId) (s : State) : Host.Outcome State Fault Refusal := .next (s.signalFound link)

/-- SIGNAL_LOST (R131). -/
def execSignalLost (link : LinkId) (s : State) : Host.Outcome State Fault Refusal := .next (s.signalLost link)

/-! ## SYNC (R142, R143) -/

/-- A good SYNC's effect on the link: RUN, the accounts rebuilt, the recall credit set and capped, and a SYNC_ACK
with the rebuilt amounts (steps 2 to 5 of R142, less the report). -/
def AgentLink.synced (l : AgentLink) (recallWindow count : Nat) : AgentLink :=
  let m := if l.linkState = .waitSync then l.enterRun else l
  let answerable := m.answerable.rebuild Config.answerableCapacity
  let closing := m.closing.rebuild Config.closingCapacity
  { m with
    answerable := answerable
    closing := closing
    recallCredit := min count recallWindow
    control := addSyncAck m.control answerable.outstanding closing.outstanding }

/-- A good SYNC on LI-An (R142). -/
def State.goodSync (s : State) (a : AgentId) (epoch count : Nat) : State :=
  let s1 := s.renewLease a epoch
  let s2 := if (s.link a).linkState = .waitSync then s1.report (.linkState (.agent a) .run .sync) else s1
  s2.modLink a fun l => l.synced (s.session a).recallWindow count

/-- A SYNC arriving in RUN or WAIT_SYNC: BAD_SYNC if its body length is not 1 (R136, R181). -/
def State.syncArrives (s : State) (a : AgentId) (f : RawFrame) : State :=
  if f.body.length ≠ 1 then s.protocolError a .badSync kindSync else s.goodSync a f.epoch (field f.body 0 1)

/-! ## Arrival (R132 to R136) -/

/-- A CRC failure is counted in RUN and in WAIT_SYNC (R133, R134). -/
def State.crcFailure (s : State) (a : AgentId) : State := s.modCounters a AgentCounters.addCrcError

/-- Add the recall credit of a frame that reaches check 6, capped at the recall window (R139). -/
def State.addRecallCredit (s : State) (a : AgentId) (x : Nat) : State :=
  s.modLink a fun l => { l with recallCredit := min (l.recallCredit + x) (s.session a).recallWindow }

/-- Checks 5 to 7 of R132 for an answerable frame. -/
def State.answerableArrives (s : State) (a : AgentId) (k : AnswerableKind) (f : RawFrame) : State :=
  if (s.link a).answerable.outstanding = 0 then s.linkError a .creditOverrun
  else (s.addRecallCredit a f.creditX).modLink a fun l =>
    { l with answerable := l.answerable.buffer { kind := k, tag := f.tag, epoch := f.epoch, body := f.body } }

/-- Checks 5 to 7 of R132 for a closing frame. -/
def State.closingArrives (s : State) (a : AgentId) (k : ClosingKind) (f : RawFrame) : State :=
  if (s.link a).closing.outstanding = 0 then s.linkError a .creditOverrun
  else (s.addRecallCredit a f.creditX).modLink a fun l =>
    { l with closing := l.closing.buffer { kind := k, tag := f.tag, epoch := f.epoch, body := f.body } }

/-- A frame of unknown kind in RUN (R136). -/
def State.unknownArrives (s : State) (a : AgentId) (f : RawFrame) : State :=
  if (s.link a).closing.outstanding = 0 then s.linkError a .creditOverrun
  else ((s.addRecallCredit a f.creditX).modLink a fun l =>
    { l with closing := l.closing.discardArrival }).protocolError a .unknownKind f.kind

/-- A frame that arrives in RUN (R132). -/
def State.arrivesInRun (s : State) (a : AgentId) (bytes : List Byte) : State :=
  match checkFrame bytes with
  | .framingFault => s.linkError a .framingError
  | .crcFailure => (s.crcFailure a).linkError a .crcError
  | .wellFormed f =>
    match agentClass f.kind with
    | .sync => s.syncArrives a f
    | .answerable k => s.answerableArrives a k f
    | .closing k => s.closingArrives a k f
    | .unknown => s.unknownArrives a f

/-- A frame that arrives in WAIT_SYNC (R133). -/
def State.arrivesInWaitSync (s : State) (a : AgentId) (bytes : List Byte) : State :=
  match checkFrame bytes with
  | .framingFault => s
  | .crcFailure => s.crcFailure a
  | .wellFormed f => if f.kind = kindSync then s.syncArrives a f else s

/-- A frame arrives on LI-An; in DOWN nothing is received (R131, R132, R133). -/
def State.frameArrives (s : State) (a : AgentId) (bytes : List Byte) : State :=
  match (s.link a).linkState with
  | .down => s
  | .waitSync => s.arrivesInWaitSync a bytes
  | .run => s.arrivesInRun a bytes

/-- FRAME_ARRIVAL (R132). -/
def execFrameArrival (a : AgentId) (bytes : List Byte) (s : State) : Host.Outcome State Fault Refusal :=
  .next (s.frameArrives a bytes)

/-! ## The arbiter and the sends (R63, R144 to R149) -/

/-- What an arbiter may choose on an agent link (R148). -/
inductive AgentSend where
  | control (frame : ControlFrame)
  | reply (reply : TaggedReply)
  | recallMessage (message : RecallMessage)
  | credit
deriving DecidableEq, Repr

/-- The recall lane: the head of the send list, ready while the link holds recall credit (R63, R146). -/
def State.recallLane (s : State) (a : AgentId) : Option RecallMessage :=
  if 0 < (s.link a).recallCredit then (s.sendList a).head? else none

/-- The arbiter's choice on a link in RUN whose transmitter is IDLE (R148). -/
def State.agentChoice (s : State) (a : AgentId) : Option AgentSend :=
  let l := s.link a
  match l.control with
  | c :: _ => some (.control c)
  | [] =>
    match l.replies.filled.head?, s.recallLane a with
    | some r, some m => if l.turn = .reply then some (.reply r) else some (.recallMessage m)
    | some r, none => some (.reply r)
    | none, some m => some (.recallMessage m)
    | none, none => if 0 < l.answerable.toReturn ∨ 0 < l.closing.toReturn then some .credit else none

/-- The bytes of the chosen frame: header filled as R138 and R178 give. -/
def State.agentFrameBytes (s : State) (a : AgentId) (choice : AgentSend) : List Byte :=
  let l := s.link a
  let frame (kind tag : Nat) (body : List Byte) : List Byte :=
    frameBytes kind tag (s.session a).epoch l.answerable.toReturn l.closing.toReturn body
  match choice with
  | .control c => frame c.kindCode 0 c.body
  | .reply r => frame r.reply.kindCode r.tag r.reply.body
  | .recallMessage m => frame kindRecall 0 m.body
  | .credit => frame kindCredit 0 []

/-- The chosen frame leaves its lane, slot or list (R63, R145, R148). -/
def State.leaveLane (s : State) (a : AgentId) (choice : AgentSend) : State :=
  match choice with
  | .control _ => s.modLink a fun l => { l with control := l.control.tail }
  | .reply r =>
    let t := s.modLink a fun l => { l with replies := l.replies.sendHead, turn := .recallLane }
    match r.reply with
    | .refused _ => t.modCounters a AgentCounters.addRefusal
    | _ => t
  | .recallMessage _ =>
    (s.modLink a fun l => { l with recallCredit := l.recallCredit - 1, turn := .reply }).modSendList a List.tail
  | .credit => s

/-- A send: the frame goes on the line with the credit returns in its header, which move into outstanding credit
(R138, R147). -/
def State.agentSends (s : State) (a : AgentId) (choice : AgentSend) : State :=
  (s.leaveLane a choice).modLink a fun l =>
    { l with answerable := l.answerable.giveBack, closing := l.closing.giveBack,
             transmitter := .busy (s.agentFrameBytes a choice) }

/-- A send takes place when the link is in RUN, the transmitter is IDLE and there is something to send (R148). -/
def State.agentLinkSends (s : State) (a : AgentId) : State :=
  if (s.link a).linkState = .run ∧ (s.link a).transmitter = .idle then
    match s.agentChoice a with
    | none => s
    | some choice => s.agentSends a choice
  else s

/-- AGENT_LINK_SEND (R148). -/
def execAgentLinkSend (a : AgentId) (s : State) : Host.Outcome State Fault Refusal := .next (s.agentLinkSends a)

/-- END_OF_TRANSMISSION (R147), on an agent link or LI-M. -/
def execEndOfTransmission (link : LinkId) (s : State) : Host.Outcome State Fault Refusal :=
  match link with
  | .agent a => .next (s.modLink a fun l => { l with transmitter := .idle })
  | .mgmt => .next (s.modMgmt fun l => { l with transmitter := .idle })

end Sys2Proof.Machine
end

