-- ==== Sys2Proof/Machine/Churn.lean ====
section
/-!
DEFINITION. The Churn Monitor (Chapter 6): outcomes, windows, alarms and the group alarm status.
-/

namespace Sys2Proof.Machine

/-- The number of RECALLED outcomes in a window (R121). -/
def recalledCount (w : List ChurnOutcome) : Nat := w.count .recalled

/-- An outcome joins the tail of a window; the oldest leaves if the window then holds more than W (R121). -/
def appendOutcome (limit : Nat) (w : List ChurnOutcome) (o : ChurnOutcome) : List ChurnOutcome :=
  if limit < (w ++ [o]).length then (w ++ [o]).tail else w ++ [o]

/-- Raise agent `a`'s alarm: set it, report it, and send the notice if the group asks for it (R122). -/
def State.raiseAlarm (s : State) (a : AgentId) : State :=
  let w := (s.member a).window
  let t := (s.modMember a fun m => { m with alarm := true }).report
    (.churnAlarm a (s.session a).group (recalledCount w) w.length)
  if (s.settings a).notify then t.placeNotice a .churnHigh (s.session a).epoch else t

/-- The test made after each append (R122). -/
def State.testAlarm (s : State) (a : AgentId) : State :=
  if (s.settings a).threshold ≤ recalledCount (s.member a).window ∧ (s.member a).alarm = false then s.raiseAlarm a
  else s

/-- The Grant Table hands over an outcome of agent `a` (R120): dropped if the agent's group is off, otherwise
appended and tested. -/
def State.recordOutcome (s : State) (a : AgentId) (o : ChurnOutcome) : State :=
  if (s.settings a).enable then
    (s.modMember a fun m => { m with window := appendOutcome (s.settings a).window m.window o }).testAlarm a
  else s

/-- Clear agent `a`'s window (R124, R125). -/
def State.clearWindow (s : State) (a : AgentId) : State := s.modMember a fun m => { m with window := [] }

/-- Clear agent `a`'s window and alarm (R127). -/
def State.clearChurn (s : State) (a : AgentId) : State := s.modMember a fun _ => { window := [], alarm := false }

/-- Clear the window of every member of a group (R124). -/
def State.clearGroupWindows (s : State) (g : GroupId) : State :=
  allAgents.foldl (fun t a => if (t.session a).group = g then t.clearWindow a else t) s

/-- The group alarm status of a group (R126). -/
def State.groupAlarm (s : State) (g : GroupId) : Bool :=
  allAgents.any fun a => (s.session a).group = g && (s.member a).alarm

end Sys2Proof.Machine
end

