-- ==== Sys2Proof/Machine/Extents.lean ====
section
/-!
DEFINITION. Extents, claims and the Grant Table's answers (Chapter 1): validity, overlap, conflict, index order, slots
and room, the range walk, the lookup by token, and the creation and upgrade of records.
-/

namespace Sys2Proof.Machine

/-! ## Extents (R3, R4) -/

/-- The first block after an extent. -/
def Extent.stop (e : Extent) : Nat := e.start + e.length

/-- An extent is valid against V (R3). -/
def Extent.valid (e : Extent) (volume : Nat) : Bool :=
  1 ≤ e.length && e.length ≤ Config.maxExtentLength && e.stop ≤ volume

/-- Two extents overlap when each starts at or before the other's last block (R4). -/
def Extent.overlaps (e f : Extent) : Bool := e.start < f.stop && f.start < e.stop

/-! ## Claims and conflict (R5) -/

/-- A claim of one agent on an extent: a request being admitted, or a wait entry (section 1.2). A CONVERT sets its
own subject record aside. -/
structure Claim where
  agent : AgentId
  kind : RequestKind
  extent : Extent
  mode : Mode
deriving DecidableEq, Repr

def WaitEntry.claim (e : WaitEntry) : Claim :=
  { agent := e.agent, kind := e.kind, extent := e.extent, mode := e.mode }

/-- Modes that do not go together (the table of R5). -/
def Mode.clash (m n : Mode) : Bool := m = .exclusive || n = .exclusive

/-- The claim conflicts with a record (R5). -/
def Claim.hitsRecord (c : Claim) (r : GrantRecord) : Bool :=
  c.kind != .convert r.slot && (c.agent != r.holder && c.extent.overlaps r.extent && c.mode.clash r.mode)

/-- The claim conflicts with a wait entry (R5). -/
def Claim.hitsEntry (c : Claim) (e : WaitEntry) : Bool :=
  c.agent != e.agent && c.extent.overlaps e.extent && c.mode.clash e.mode

/-- The records conflicting with a claim, in index order (R5, R13). -/
def State.conflicting (s : State) (c : Claim) : List GrantRecord :=
  s.grantTable.records.filter fun r => c.hitsRecord r

/-- A request of agent `a` for an extent self-overlaps (R6). -/
def State.selfOverlaps (s : State) (a : AgentId) (e : Extent) : Bool :=
  (s.grantTable.records.any fun r => r.holder = a && e.overlaps r.extent) ||
  (s.waitList.any fun w => w.agent = a && e.overlaps w.extent)

/-! ## Index order (R13) -/

/-- The position of a record comes before another's. -/
def GrantRecord.before (r q : GrantRecord) : Bool :=
  r.extent.start < q.extent.start || (r.extent.start = q.extent.start && r.slot < q.slot)

/-- A record enters the index (R13). -/
def insertRecord (r : GrantRecord) : List GrantRecord → List GrantRecord
  | [] => [r]
  | q :: rest => if r.before q then r :: q :: rest else q :: insertRecord r rest

/-! ## Slots and room (R11, R12) -/

/-- The least number from `n` on, within `fuel` numbers, that is not used. -/
def leastUnused (used : List Nat) : Nat → Nat → Option Nat
  | 0, _ => none
  | fuel + 1, n => if used.contains n then leastUnused used fuel (n + 1) else some n

/-- The lowest-numbered free slot (R11). -/
def State.freeSlot (s : State) : Option Nat :=
  leastUnused (s.grantTable.records.map GrantRecord.slot) Config.slotCount 0

/-- A token can be issued (R12, R16). -/
def State.canIssueToken (s : State) : Bool := s.grantTable.counter < Config.tokenMax

/-- There is room for the claim: a slot and a token for an ACQUIRE, a token for a CONVERT (R12). -/
def State.hasRoom (s : State) (c : Claim) : Bool :=
  match c.kind with
  | .acquire => s.freeSlot.isSome && s.canIssueToken
  | .convert _ => s.canIssueToken

/-! ## Creation and upgrade (R15, R18, R19) -/

/-- The token issued next (R15). -/
def State.nextToken (s : State) : Nat := s.grantTable.counter + 1

/-- The record an ACQUIRE's grant creates in a slot (R18). -/
def Claim.newRecord (c : Claim) (slot token epoch : Nat) : GrantRecord :=
  { slot := slot, token := token, holder := c.agent, epoch := epoch, extent := c.extent, mode := c.mode,
    recallRecord := none, sweepPending := false }

/-- Create the record of a granted ACQUIRE in the lowest free slot with a newly issued token (R18). -/
def State.createRecord (s : State) (c : Claim) (epoch : Nat) : State :=
  match s.freeSlot with
  | none => s
  | some slot =>
    { s with grantTable :=
        { records := insertRecord (c.newRecord slot s.nextToken epoch) s.grantTable.records
          counter := s.nextToken } }

/-- Upgrade the record in a slot to EXCLUSIVE with a newly issued token (R19). -/
def State.upgradeRecord (s : State) (slot : Nat) : State :=
  let t := s.modRecord slot fun r => { r with mode := .exclusive, token := s.nextToken }
  { t with grantTable := { t.grantTable with counter := s.nextToken } }

/-! ## Lookup (R20) and the range walk (R14) -/

/-- The record that token `t` names for agent `a`, in its current session (R20). -/
def State.lookup (s : State) (a : AgentId) (t : Nat) : Option GrantRecord :=
  s.grantTable.records.find? fun r => r.token = t && r.holder = a && r.epoch = (s.session a).epoch

def GrantRecord.descriptor (r : GrantRecord) : Descriptor :=
  { token := r.token, holder := r.holder, mode := r.mode, recalling := r.recallRecord.isSome, extent := r.extent }

/-- The records a range walk selects, in index order (R14); a resume position of 0 selects the same as none. -/
def selectRecords (records : List GrantRecord) (q : Extent) (resumeAt : Nat) : List GrantRecord :=
  records.filter fun r => r.extent.overlaps q && resumeAt ≤ r.extent.start

/-- Whole groups, in order, for as long as they fit in `room` (R14). -/
def takeGroups {α : Type} : Nat → List (List α) → List α
  | _, [] => []
  | room, g :: rest => if g.length ≤ room then g ++ takeGroups (room - g.length) rest else []

/-- The records a range walk returns: whole groups of one start while the count stays at or below 12 (R14). -/
def walkRecords (records : List GrantRecord) (q : Extent) (resumeAt : Nat) : List GrantRecord :=
  takeGroups Config.descriptorLimit
    ((selectRecords records q resumeAt).splitBy fun r p => r.extent.start = p.extent.start)

/-- The more flag of a range walk (R14). -/
def walkMore (records : List GrantRecord) (q : Extent) (resumeAt : Nat) : Bool :=
  (walkRecords records q resumeAt).length < (selectRecords records q resumeAt).length

/-- The descriptors a range walk returns (R14). -/
def State.walkDescriptors (s : State) (q : Extent) (resumeAt : Nat) : List Descriptor :=
  (walkRecords s.grantTable.records q resumeAt).map GrantRecord.descriptor

/-- The more flag of a range walk over the Grant Table (R14). -/
def State.walkHasMore (s : State) (q : Extent) (resumeAt : Nat) : Bool := walkMore s.grantTable.records q resumeAt

end Sys2Proof.Machine
end

