-- ==== Sys2Proof/Machine/Recalls.lean ====
section
/-!
DEFINITION. The Recall Engine (Chapter 3): issue, escalation, resend, and the recall send lists.
-/

namespace Sys2Proof.Machine

/-- The RECALL message of a record for a wanted outcome and attempt number (R59, R62). -/
def GrantRecord.message (r : GrantRecord) (wanted : Wanted) (attempt : Nat) : RecallMessage :=
  { token := r.token, extent := r.extent, wanted := wanted, attempt := attempt }

/-- Take the message of a token out of a send list (R64). -/
def removeMessage (list : List RecallMessage) (token : Nat) : List RecallMessage :=
  list.filter fun m => m.token != token

/-- Change the waiting message of a token in its place, or put a new one at the tail (R60, R67). -/
def updateMessage (list : List RecallMessage) (token : Nat) (f : RecallMessage → RecallMessage)
    (fresh : RecallMessage) : List RecallMessage :=
  if list.any fun m => m.token = token then list.map fun m => if m.token = token then f m else m
  else list ++ [fresh]

/-- A CONVERT wait entry of agent `a` whose subject is the record in a slot. -/
def WaitEntry.converts (e : WaitEntry) (a : AgentId) (slot : Nat) : Bool :=
  e.agent = a && e.kind = .convert slot

/-- Remove the CONVERT entry of agent `a` on a slot, if there is one, and answer it (R21 step 5, R47). -/
def State.dropConvert (s : State) (a : AgentId) (slot : Nat) (code : RefusalCode) : State :=
  match s.waitList.find? fun e => e.converts a slot with
  | none => s
  | some e => (s.setWaitList (s.waitList.eraseP fun e => e.converts a slot)).refuse a e.tag code

/-- A record with another recall record, or none. -/
def GrantRecord.withRecall (r : GrantRecord) (rc : Option RecallRecord) : GrantRecord := { r with recallRecord := rc }

/-- Issue a recall for a HELD record (R59). -/
def State.issueRecall (s : State) (r : GrantRecord) (wanted : Wanted) (cause : RecallCause) : State :=
  let rc : RecallRecord :=
    { wanted := wanted, cause := cause, attempts := 1, deadline := s.timeBase + s.params.recallTimeout }
  let s1 := s.modRecord r.slot fun x => x.withRecall (some rc)
  let s2 := s1.modSendList r.holder fun l => l ++ [r.message wanted 1]
  let s3 := s2.modCounters r.holder AgentCounters.addRecall
  s3.dropConvert r.holder r.slot .recalled

/-- Escalate a recall that wants DOWNGRADE to RELEASE (R60). -/
def State.escalateRecall (s : State) (r : GrantRecord) (rc : RecallRecord) (cause : RecallCause) : State :=
  let s1 := s.modRecord r.slot fun x => x.withRecall (some { rc with wanted := .release, cause := cause })
  s1.modSendList r.holder fun l =>
    updateMessage l r.token (fun _ => r.message .release rc.attempts) (r.message .release rc.attempts)

/-- A request to recall the record in a slot (R58). -/
def State.requestRecall (s : State) (slot : Nat) (wanted : Wanted) (cause : RecallCause) : State :=
  match s.recordAt slot with
  | none => s
  | some r =>
    match r.recallRecord with
    | none => s.issueRecall r wanted cause
    | some rc => if rc.wanted = .downgrade ∧ wanted = .release then s.escalateRecall r rc cause else s

/-- The interval after attempt `k` (R67). -/
def recallInterval (timeout k : Nat) : Nat := min (timeout * 2 ^ (k - 1)) (Config.backoffCap * timeout)

/-- Resend a recall whose deadline has passed (R67). -/
def State.resendRecall (s : State) (r : GrantRecord) (rc : RecallRecord) : State :=
  let k := rc.attempts + 1
  let deadline := s.timeBase + recallInterval s.params.recallTimeout k
  let s1 := s.modRecord r.slot fun x => x.withRecall (some { rc with attempts := k, deadline := deadline })
  s1.modSendList r.holder fun l =>
    updateMessage l r.token (fun m => { m with attempt := k }) (r.message rc.wanted k)

/-- What a claim needs of the holder of a record it conflicts with (R35). -/
def wantedFor : Mode → Wanted
  | .exclusive => .release
  | .shared => .downgrade

/-- Issue recalls for every record conflicting with a claim, in index order (R35). -/
def State.recallConflicts (s : State) (c : Claim) : State :=
  (s.conflicting c).foldl (fun t r => t.requestRecall r.slot (wantedFor c.mode) .conflict) s

/-- Purge agent `a`'s send list (R74). -/
def State.purgeSendList (s : State) (a : AgentId) : State := s.modSendList a fun _ => []

end Sys2Proof.Machine
end

