-- ==== Sys2Proof/Machine/Sweeping.lean ====
section
/-!
DEFINITION. The Sweep Engine's own state (Chapter 5): barrier, cursor, tallies, the pending set and completion.
-/

namespace Sys2Proof.Machine

/-- Agent `a` is in an agent mask (section 9.3). -/
def inMask (mask : BitVec 8) (a : AgentId) : Bool := mask.getLsbD a.val

/-- A sweep's barrier covers a claim (R111). -/
def Sweep.covers (w : Sweep) (c : Claim) : Bool :=
  w.kind != .census && inMask w.mask c.agent && c.extent.overlaps w.range &&
    (w.kind = .revoke || c.mode = .exclusive)

/-- The claim is barred (R36, R111). -/
def State.barred (s : State) (c : Claim) : Bool :=
  match s.sweep with
  | none => false
  | some w => w.covers c

/-- A record lies ahead of a cursor (R105). -/
def Cursor.isAhead (c : Cursor) (r : GrantRecord) : Bool :=
  match c with
  | .before start slot => start < r.extent.start || (start = r.extent.start && slot ≤ r.slot)
  | .after start slot => start < r.extent.start || (start = r.extent.start && slot < r.slot)

/-- Where the cursor of a sweep of a range starts (R105). -/
def startCursor (range : Extent) : Cursor := .before (range.start - Config.sweepReach) 0

/-- The pending set is empty: no record's sweep-pending flag is set (R110). -/
def State.pendingEmpty (s : State) : Bool := s.grantTable.records.all fun r => !r.sweepPending

def Tallies.addExamined (t : Tallies) (m : Mode) : Tallies :=
  match m with
  | .shared => { t with examined := countUp t.examined, censusShared := countUp t.censusShared }
  | .exclusive => { t with examined := countUp t.examined, censusExclusive := countUp t.censusExclusive }

def Tallies.addRecalled (t : Tallies) : Tallies := { t with recalled := countUp t.recalled }

/-- How a pending record leaves the pending set (R110). -/
inductive Resolution where
  | byRelease
  | byDowngrade
  | byFence
deriving DecidableEq, Repr

def Tallies.addResolved (t : Tallies) : Resolution → Tallies
  | .byRelease => { t with byRelease := countUp t.byRelease }
  | .byDowngrade => { t with byDowngrade := countUp t.byDowngrade }
  | .byFence => { t with byFence := countUp t.byFence }

/-- Change the active sweep. -/
def State.modSweep (s : State) (f : Sweep → Sweep) : State := { s with sweep := s.sweep.map f }

/-- The sweep ends: SWEEP_DONE is appended, the fields are discarded and the barrier with them (R113, R114). -/
def State.endSweep (s : State) (status : SweepEnd) : State :=
  match s.sweep with
  | none => s
  | some w => { s.report (.sweepDone w.id status w.tallies) with sweep := none }

/-- A sweep in DRAINING whose pending set is empty completes (R113). The walk is the caller's. -/
def State.completeIfDrained (s : State) : State :=
  match s.sweep with
  | some { phase := .draining, .. } => if s.pendingEmpty then s.endSweep .complete else s
  | _ => s

/-- The Grant Table tells the Sweep Engine that a pending record has left the set (R9, R110). -/
def State.resolvePending (s : State) (how : Resolution) : State :=
  (s.modSweep fun w => { w with tallies := w.tallies.addResolved how }).completeIfDrained

/-- The sweep state as others read it (R102, R117). -/
def State.sweepStatus (s : State) : SweepStatus :=
  match s.sweep with
  | none => .idle
  | some w => match w.phase with
    | .scanning _ => .scanning
    | .draining => .draining

end Sys2Proof.Machine
end

