-- ==== Sys2Proof/Machine/Waiting.lean ====
section
/-!
DEFINITION. The Wait List (Chapter 2): grantability, granting, admission, appending and re-evaluation.
-/

namespace Sys2Proof.Machine

/-- The first obstacle of a claim, in the order of the cases of R41. -/
inductive Obstacle where
  | earlier
  | barrier
  | records
  | room
deriving DecidableEq, Repr

/-- The first thing that stands in the way of a claim behind the entries `ahead`; none when it is grantable (R36,
R41). -/
def State.obstacle (s : State) (ahead : List WaitEntry) (c : Claim) : Option Obstacle :=
  if ahead.any fun e => c.hitsEntry e then some .earlier
  else if s.barred c then some .barrier
  else if !(s.conflicting c).isEmpty then some .records
  else if !s.hasRoom c then some .room
  else none

/-- Grant a claim: create the record or upgrade the subject, place the reply in the request's slot and count the
grant (R38, R42, R47). -/
def State.grant (s : State) (c : Claim) (tag epoch : Nat) : State :=
  match c.kind with
  | .acquire =>
    ((s.createRecord c epoch).placeReply c.agent tag (.granted s.nextToken c.extent c.mode)).modCounters c.agent
      AgentCounters.addGrant
  | .convert slot =>
    ((s.upgradeRecord slot).placeReply c.agent tag (.converted s.nextToken .exclusive)).modCounters c.agent
      AgentCounters.addGrant

/-- The state a new entry takes (R39). -/
def newEntryState : Obstacle → EntryState
  | .earlier => .queued .earlier
  | .barrier => .queued .barrier
  | .records => .recalling
  | .room => .recalling

/-- The entry a request becomes (R33, R39). -/
def Claim.entry (c : Claim) (tag epoch deadline : Nat) (state : EntryState) : WaitEntry :=
  { agent := c.agent, tag := tag, epoch := epoch, kind := c.kind, extent := c.extent, mode := c.mode,
    deadline := deadline, state := state }

/-- Append a request as a wait entry; if it becomes RECALLING its recalls are issued (R39, R47 step 6). -/
def State.appendEntry (s : State) (c : Claim) (tag epoch maxWait : Nat) (o : Obstacle) : State :=
  let t := s.setWaitList (s.waitList ++ [c.entry tag epoch (s.timeBase + maxWait) (newEntryState o)])
  match newEntryState o with
  | .recalling => t.recallConflicts c
  | .queued _ => t

/-- Steps 4 to 8 of R37 and steps 2 to 6 of R47: grant, refuse or append. -/
def State.admission (s : State) (c : Claim) (tag epoch maxWait : Nat) : State :=
  match s.obstacle s.waitList c with
  | none => s.grant c tag epoch
  | some o =>
    if maxWait = 0 then s.refuse c.agent tag .conflict
    else if o = .room then s.refuse c.agent tag .tableFull
    else if Config.waitCapacity ≤ s.waitList.length then s.refuse c.agent tag .waitFull
    else s.appendEntry c tag epoch maxWait o

/-- Set the state of the entry at a place in the list. -/
def State.setEntryState (s : State) (place : Nat) (state : EntryState) : State :=
  s.setWaitList (s.waitList.modify place fun e => { e with state := state })

/-- A walk visits the entry `e` at a place in the list (R41, R42). The answer holds the place visited next: the same
place when the entry was granted and has left. -/
def State.visitEntry (s : State) (place : Nat) (e : WaitEntry) : State × Nat :=
  match s.obstacle (s.waitList.take place) e.claim, e.state with
  | none, _ => ((s.setWaitList (s.waitList.eraseIdx place)).grant e.claim e.tag e.epoch, place)
  | some .earlier, .queued _ => (s.setEntryState place (.queued .earlier), place + 1)
  | some .earlier, .recalling => (s, place + 1)
  | some .barrier, .queued _ => (s.setEntryState place (.queued .barrier), place + 1)
  | some .barrier, .recalling => (s, place + 1)
  | some .records, .queued _ => ((s.setEntryState place .recalling).recallConflicts e.claim, place + 1)
  | some .records, .recalling => (s, place + 1)
  | some .room, _ => (s.setEntryState place (.queued .noRecord), place + 1)

/-- A walk from a place in the list on, visiting at most `fuel` entries (R41). -/
def State.walkFrom : Nat → Nat → State → State
  | 0, _, s => s
  | fuel + 1, place, s =>
    match s.waitList[place]? with
    | none => s
    | some e => State.walkFrom fuel (s.visitEntry place e).2 (s.visitEntry place e).1

/-- Re-evaluation: a walk of the whole list in arrival order (R40, R41). Each visit leaves its entry behind it, so as
many visits as there are entries reach the end. -/
def State.reevaluate (s : State) : State := State.walkFrom s.waitList.length 0 s

/-- Place the same refusal for each of some entries, in order. -/
def State.refuseEntries (s : State) (entries : List WaitEntry) (code : RefusalCode) : State :=
  entries.foldl (fun t e => t.refuse e.agent e.tag code) s

/-- Agent `a`'s wait entries, in arrival order. -/
def State.entriesOf (s : State) (a : AgentId) : List WaitEntry := s.waitList.filter fun e => e.agent = a

/-- Remove agent `a`'s wait entries (R51). -/
def State.removeEntries (s : State) (a : AgentId) : State :=
  s.setWaitList (s.waitList.filter fun e => e.agent != a)

/-- The entry of agent `a` with a tag, under its current session's epoch (R49). -/
def State.entryOf (s : State) (a : AgentId) (tag : Nat) : Option WaitEntry :=
  s.waitList.find? fun e => e.agent = a && e.tag = tag && e.epoch = (s.session a).epoch

/-- Remove the entry of agent `a` with a tag, answer it, and re-evaluate (R48, R49). -/
def State.expelEntry (s : State) (a : AgentId) (tag : Nat) (code : RefusalCode) : State :=
  ((s.setWaitList (s.waitList.eraseP fun e => e.agent = a && e.tag = tag)).refuse a tag code).reevaluate

end Sys2Proof.Machine
end

