-- ==== Sys2Proof/Machine/Removal.lean ====
section
/-!
DEFINITION. The removal of records (R21), the downgrade (R23), and the end of a session: LEAVE's steps and fencing
(R85, R93).
-/

namespace Sys2Proof.Machine

/-- The causes of a removal that hand something on to other blocks (the table of R21). RESET_DIRECTORY hands on
nothing and is `State.dropAllRecords`. -/
inductive RemovalCause where
  | release
  | leave
  | fencing
deriving DecidableEq, Repr

/-- The sweep tally of a removal (the table of R21). -/
def RemovalCause.resolution : RemovalCause → Resolution
  | .release => .byRelease
  | .leave => .byRelease
  | .fencing => .byFence

/-- The outcome of a RELEASE (the table of R21). -/
def releaseOutcome (r : GrantRecord) : ChurnOutcome := if r.recallRecord.isSome then .recalled else .voluntary

/-- Take the unsent RECALL of a record out of its holder's send list (R21 step 1, R23). -/
def State.withdrawMessage (s : State) (r : GrantRecord) : State :=
  s.modSendList r.holder fun l => removeMessage l r.token

/-- Steps 1 to 3 of R21: the recall goes, the slot becomes free, and the Sweep Engine is told if the record was
pending. -/
def State.detachRecord (s : State) (cause : RemovalCause) (r : GrantRecord) : State :=
  let s1 := if r.recallRecord.isSome then s.withdrawMessage r else s
  let s2 := s1.setRecords (s1.grantTable.records.filter fun q => q.slot != r.slot)
  if r.sweepPending then s2.resolvePending cause.resolution else s2

/-- Remove a record (R21). Steps 4 and 5 have an effect only for a RELEASE. -/
def State.removeRecord (s : State) (cause : RemovalCause) (r : GrantRecord) : State :=
  match cause with
  | .release =>
    ((s.detachRecord .release r).recordOutcome r.holder (releaseOutcome r)).dropConvert r.holder r.slot .grantLost
  | c => s.detachRecord c r

/-- The records agent `a` holds, in index order. -/
def State.recordsOf (s : State) (a : AgentId) : List GrantRecord :=
  s.grantTable.records.filter fun r => r.holder = a

/-- Remove every record of agent `a`, in index order (R25). -/
def State.removeRecords (s : State) (cause : RemovalCause) (a : AgentId) : State :=
  (s.recordsOf a).foldl (fun t r => t.removeRecord cause r) s

/-- Remove every record, telling no other block (R26). -/
def State.dropAllRecords (s : State) : State := s.setRecords []

/-- A downgrade of an EXCLUSIVE record: the table of R23, the Sweep Engine told first and the Churn Monitor second
(R120). The walk is the caller's. -/
def State.downgradeRecord (s : State) (r : GrantRecord) : State :=
  let satisfied : Bool := r.recallRecord.any fun rc => rc.wanted = .downgrade
  let leavesPending : Bool := r.sweepPending && s.sweep.any fun w => w.kind = .demote
  let s1 := s.modRecord r.slot fun x =>
    { x with
      mode := .shared
      recallRecord := if satisfied then none else x.recallRecord
      sweepPending := x.sweepPending && !leavesPending }
  let s2 := if satisfied then s1.withdrawMessage r else s1
  let s3 := if leavesPending then s2.resolvePending .byDowngrade else s2
  if r.recallRecord.isSome then s3.recordOutcome r.holder .recalled else s3

/-- Steps 1 to 3 of LEAVE and of a JOIN while ACTIVE (R83, R85). -/
def State.endSession (s : State) (a : AgentId) : State :=
  let s1 := (s.removeEntries a).refuseEntries (s.entriesOf a) .sessionEnded
  (s1.removeRecords .leave a).purgeSendList a

/-- Steps 1 to 9 of fencing (R93). -/
def State.fenceSteps (s : State) (a : AgentId) (cause : FenceCause) : State :=
  let epoch := (s.session a).epoch
  let s1 := s.removeEntries a
  let s2 := s1.modLink a fun l => { l with replies := .empty }
  let s3 := s2.removeRecords .fencing a
  let s4 := s3.purgeSendList a
  let s5 := s4.modSession a fun x =>
    { x with state := .fenced, fenceCause := cause, counters := x.counters.addFencing }
  let s6 := s5.clearChurn a
  let s7 := s6.modLink a fun l =>
    { l with answerable := l.answerable.discardAll, closing := l.closing.discardAll }
  let s8 := s7.placeNotice a (.fenced cause) epoch
  s8.report (.fenced a cause epoch (s.recordsOf a).length (s.entriesOf a).length)

/-- Fence agent `a` (R93). -/
def State.fence (s : State) (a : AgentId) (cause : FenceCause) : State := (s.fenceSteps a cause).reevaluate

end Sys2Proof.Machine
end

