-- ==== Sys2Proof/Machine/AgentRequests.lean ====
section
/-!
DEFINITION. The answerable frames: the taking from the answerable buffer (R140), the session checks (R30), and JOIN,
ACQUIRE, CONVERT, QUERY and LEAVE.
-/

namespace Sys2Proof.Machine

/-! ## Taking (R29, R140) -/

/-- LI-An may take its answerable head (R140). -/
def State.mayTakeAnswerable (s : State) (a : AgentId) : Bool :=
  (s.link a).linkState = .run && (s.link a).replies.hasFree Config.agentReplySlots &&
    s.management.state != .paused

/-- The state once the answerable head of LI-An, sent under `epoch`, has left its buffer: its credit is to return,
a slot is RESERVED, and the session lease is renewed first of all (R87, R140). -/
def State.afterTakingAnswerable (s : State) (a : AgentId) (epoch : Nat) : State :=
  (s.modLink a fun l =>
    { l with answerable := l.answerable.takeHead, replies := l.replies.reserve }).renewLease a epoch

/-- Take the answerable head of LI-An if it is of kind `k` and the conditions of R140 hold: the frame, and the state
once it has left its buffer. -/
def State.takeAnswerable (s : State) (a : AgentId) (k : AnswerableKind) : Option (Frame AnswerableKind × State) :=
  match (s.link a).answerable.frames with
  | [] => none
  | f :: _ => if f.kind = k && s.mayTakeAnswerable a then some (f, s.afterTakingAnswerable a f.epoch) else none

/-- A happening that takes an answerable frame of kind `k`. Where none can be taken, nothing happens (assumption
2). -/
def State.onAnswerable (s : State) (a : AgentId) (k : AnswerableKind)
    (act : State → Frame AnswerableKind → State) : State :=
  match s.takeAnswerable a k with
  | none => s
  | some (f, t) => act t f

/-- The session checks of R30 for a frame other than JOIN: the first that fails. -/
def State.sessionCheck (s : State) (a : AgentId) (epoch : Nat) : Option RefusalCode :=
  if s.management.state = .unconfigured then some .notReady
  else match (s.session a).state with
    | .offline => some .notJoined
    | .fenced => some .fenced
    | .active _ => if epoch ≠ (s.session a).epoch then some .staleEpoch else none

/-- The tag passes R32: 0 to 31, and not the tag of an entry of the agent. -/
def State.tagPasses (s : State) (a : AgentId) (tag : Nat) : Bool :=
  tag ≤ Config.maxTag && !(s.waitList.any fun e => e.agent = a && e.tag = tag)

/-! ## JOIN (R81 to R83) -/

/-- The epoch that follows (R79). -/
def nextEpoch (epoch : Nat) : Nat := if epoch = Config.epochMax then 1 else epoch + 1

/-- The first four tests of R81, for a JOIN whose window is good or absent: the first refusal that applies. -/
def State.joinRefusal (s : State) (a : AgentId) (tag : Nat) (window : Option Nat) : Option RefusalCode :=
  if s.management.state = .unconfigured then some .notReady
  else if (s.session a).state = .fenced then some .fenced
  else if (s.session a).state = .offline ∧ (s.session a).admitFlag = false then some .notAdmitted
  else if Config.maxTag < tag ∨ window = none then some .badRequest
  else none

/-- Steps 1 to 5 of R82: the session starts and JOINED is placed. -/
def State.startSession (s : State) (a : AgentId) (tag window : Nat) : State :=
  let epoch := nextEpoch (s.session a).epoch
  let s1 := s.modSession a fun x =>
    { x with state := .active (s.timeBase + s.params.leasePeriod), epoch := epoch, recallWindow := window }
  let s2 := s1.modLink a fun l => { l with recallCredit := window }
  s2.placeReply a tag
    (.joined epoch s.params.leasePeriod s.params.recallTimeout s.params.attemptLimit s.params.volume window)

/-- A JOIN whose tests have passed (R82, R83). -/
def State.acceptJoin (s : State) (a : AgentId) (tag window : Nat) : State :=
  match (s.session a).state with
  | .active _ => ((s.endSession a).startSession a tag window).reevaluate
  | _ => s.startSession a tag window

def State.handleJoin (a : AgentId) (s : State) (f : Frame AnswerableKind) : State :=
  match s.joinRefusal a f.tag (joinWindow f.body) with
  | some code => s.refuse a f.tag code
  | none => s.acceptJoin a f.tag ((joinWindow f.body).getD 0)

/-! ## ACQUIRE (R37) -/

/-- The claim of an ACQUIRE (section 1.2). -/
def acquireClaim (a : AgentId) (q : AcquireFields) : Claim :=
  { agent := a, kind := .acquire, extent := q.extent, mode := q.mode }

/-- Steps 2 and 3 of R37: the field checks of R32 and self-overlap. -/
def State.acquireRefusal (s : State) (a : AgentId) (tag : Nat) (q : AcquireFields) : Option RefusalCode :=
  if !s.tagPasses a tag then some .badRequest
  else if !q.extent.valid s.params.volume then some .badExtent
  else if s.selfOverlaps a q.extent then some .selfOverlap
  else none

def State.handleAcquire (a : AgentId) (s : State) (f : Frame AnswerableKind) : State :=
  match s.sessionCheck a f.epoch with
  | some code => s.refuse a f.tag code
  | none =>
    match acquireFields f.body with
    | none => s.refuse a f.tag .badRequest
    | some q =>
      match s.acquireRefusal a f.tag q with
      | some code => s.refuse a f.tag code
      | none => s.admission (acquireClaim a q) f.tag f.epoch q.maxWait

/-! ## CONVERT (R45 to R47) -/

/-- The claim of a CONVERT to EXCLUSIVE of a record (R5). -/
def convertClaim (a : AgentId) (r : GrantRecord) : Claim :=
  { agent := a, kind := .convert r.slot, extent := r.extent, mode := .exclusive }

/-- A CONVERT to SHARED of an EXCLUSIVE record: the downgrade, its walk, and then CONVERTED with the unchanged token
(R46). DEDUCED, unsafe: CONVERTED joins the reply lane after what the walk places (assumption 4). -/
def State.convertDown (s : State) (a : AgentId) (tag : Nat) (r : GrantRecord) : State :=
  ((s.downgradeRecord r).reevaluate).placeReply a tag (.converted r.token .shared)

/-- A CONVERT to EXCLUSIVE of a SHARED record (R47). -/
def State.convertUp (s : State) (a : AgentId) (tag epoch maxWait : Nat) (r : GrantRecord) : State :=
  if r.recallRecord.isSome then s.refuse a tag .recalled
  else s.admission (convertClaim a r) tag epoch maxWait

/-- The tests of R45 against the subject, and the conversion. -/
def State.convertSubject (s : State) (a : AgentId) (tag epoch : Nat) (q : ConvertFields) : State :=
  match s.lookup a q.token with
  | none => s.refuse a tag .unknownGrant
  | some r =>
    if q.mode = r.mode then s.refuse a tag .badRequest
    else if s.waitList.any fun e => e.converts a r.slot then s.refuse a tag .badRequest
    else match q.mode with
      | .shared => s.convertDown a tag r
      | .exclusive => s.convertUp a tag epoch q.maxWait r

def State.handleConvert (a : AgentId) (s : State) (f : Frame AnswerableKind) : State :=
  match s.sessionCheck a f.epoch with
  | some code => s.refuse a f.tag code
  | none =>
    match convertFields f.body with
    | none => s.refuse a f.tag .badRequest
    | some q => if s.tagPasses a f.tag then s.convertSubject a f.tag f.epoch q else s.refuse a f.tag .badRequest

/-! ## QUERY (R50) -/

def State.handleQuery (a : AgentId) (s : State) (f : Frame AnswerableKind) : State :=
  match s.sessionCheck a f.epoch with
  | some code => s.refuse a f.tag code
  | none =>
    match queryFields f.body with
    | none => s.refuse a f.tag .badRequest
    | some q =>
      if !s.tagPasses a f.tag then s.refuse a f.tag .badRequest
      else if !q.extent.valid s.params.volume then s.refuse a f.tag .badExtent
      else s.placeReply a f.tag
        (.queryResult (s.walkDescriptors q.extent q.resumeAt) (s.walkHasMore q.extent q.resumeAt))

/-! ## LEAVE (R85) -/

/-- Steps 1 to 6 of R85. -/
def State.leaveSession (s : State) (a : AgentId) (tag : Nat) : State :=
  (((s.endSession a).placeReply a tag .left).modSession a fun x => { x with state := .offline }).reevaluate

def State.handleLeave (a : AgentId) (s : State) (f : Frame AnswerableKind) : State :=
  match s.sessionCheck a f.epoch with
  | some code => s.refuse a f.tag code
  | none =>
    if Config.maxTag < f.tag ∨ f.body.length ≠ 0 then s.refuse a f.tag .badRequest else s.leaveSession a f.tag

/-! ## The meanings -/

/-- JOIN (R81). -/
def execJoin (a : AgentId) (s : State) : Host.Outcome State Fault Refusal :=
  .next (s.onAnswerable a .join (State.handleJoin a))

/-- ACQUIRE (R37). -/
def execAcquire (a : AgentId) (s : State) : Host.Outcome State Fault Refusal :=
  .next (s.onAnswerable a .acquire (State.handleAcquire a))

/-- CONVERT (R45). -/
def execConvert (a : AgentId) (s : State) : Host.Outcome State Fault Refusal :=
  .next (s.onAnswerable a .convert (State.handleConvert a))

/-- QUERY (R50). -/
def execQuery (a : AgentId) (s : State) : Host.Outcome State Fault Refusal :=
  .next (s.onAnswerable a .query (State.handleQuery a))

/-- LEAVE (R85). -/
def execLeave (a : AgentId) (s : State) : Host.Outcome State Fault Refusal :=
  .next (s.onAnswerable a .leave (State.handleLeave a))

end Sys2Proof.Machine
end

