-- ==== Sys2Proof/Machine/ClosingFrames.lean ====
section
/-!
DEFINITION. The closing frames: the taking from the closing buffer (R141), the checks of R31 and R181, and RELEASE,
DOWNGRADE, CANCEL and KEEPALIVE.
-/

namespace Sys2Proof.Machine

/-! ## Taking (R141) -/

/-- The state once the closing head of LI-An, sent under `epoch`, has left its buffer: its credit is to return and
the session lease is renewed first of all (R87, R141). -/
def State.afterTakingClosing (s : State) (a : AgentId) (epoch : Nat) : State :=
  (s.modLink a fun l => { l with closing := l.closing.takeHead }).renewLease a epoch

/-- Take the closing head of LI-An if it is of kind `k` and the link is in RUN (R141). -/
def State.takeClosing (s : State) (a : AgentId) (k : ClosingKind) : Option (Frame ClosingKind × State) :=
  match (s.link a).closing.frames with
  | [] => none
  | f :: _ =>
    if f.kind = k && (s.link a).linkState = .run then some (f, s.afterTakingClosing a f.epoch) else none

/-- The checks of R31 and then the body length of R181, before the rule of the frame's kind acts. -/
def State.closingChecks (a : AgentId) (act : State → Frame ClosingKind → State) (s : State)
    (f : Frame ClosingKind) : State :=
  if s.management.state = .unconfigured then s.lateFrame a
  else match (s.session a).state with
    | .offline => s.lateFrame a
    | .fenced => s.lateFrame a
    | .active _ =>
      if f.epoch ≠ (s.session a).epoch then s.protocolError a .badEpoch f.kind.code
      else if f.body.length ≠ f.kind.bodyLength then s.protocolError a .badLength f.kind.code
      else act s f

/-- A happening that takes a closing frame of kind `k`. Where none can be taken, nothing happens (assumption 2). -/
def State.onClosing (s : State) (a : AgentId) (k : ClosingKind) (act : State → Frame ClosingKind → State) : State :=
  match s.takeClosing a k with
  | none => s
  | some (f, t) => State.closingChecks a act t f

/-! ## The rule of each kind -/

/-- RELEASE (R22). -/
def State.handleRelease (a : AgentId) (s : State) (f : Frame ClosingKind) : State :=
  match s.lookup a (tokenField f.body) with
  | none => s.protocolError a .badRelease f.kind.code
  | some r => (s.removeRecord .release r).reevaluate

/-- DOWNGRADE (R24). -/
def State.handleDowngrade (a : AgentId) (s : State) (f : Frame ClosingKind) : State :=
  match s.lookup a (tokenField f.body) with
  | none => s.protocolError a .badDowngrade f.kind.code
  | some r =>
    match r.mode with
    | .shared => s.lateFrame a
    | .exclusive => (s.downgradeRecord r).reevaluate

/-- CANCEL (R49): the tag named is the header tag (section 9.4). -/
def State.handleCancel (a : AgentId) (s : State) (f : Frame ClosingKind) : State :=
  match s.entryOf a f.tag with
  | none => s.lateFrame a
  | some _ => s.expelEntry a f.tag .cancelled

/-- KEEPALIVE has no effect beyond its taking (R90). -/
def State.handleKeepalive (s : State) (_f : Frame ClosingKind) : State := s

/-! ## The meanings -/

/-- RELEASE (R22). -/
def execRelease (a : AgentId) (s : State) : Host.Outcome State Fault Refusal :=
  .next (s.onClosing a .release (State.handleRelease a))

/-- DOWNGRADE (R24). -/
def execDowngrade (a : AgentId) (s : State) : Host.Outcome State Fault Refusal :=
  .next (s.onClosing a .downgrade (State.handleDowngrade a))

/-- CANCEL (R49). -/
def execCancel (a : AgentId) (s : State) : Host.Outcome State Fault Refusal :=
  .next (s.onClosing a .cancel (State.handleCancel a))

/-- KEEPALIVE (R90). -/
def execKeepalive (a : AgentId) (s : State) : Host.Outcome State Fault Refusal :=
  .next (s.onClosing a .keepalive State.handleKeepalive)

end Sys2Proof.Machine
end

