-- ==== Sys2Proof/Machine/SweepSteps.lean ====
section
/-!
DEFINITION. The sweep step (R106 to R109) and the abort of a sweep (R114, R115).
-/

namespace Sys2Proof.Machine

/-- The first record ahead of a cursor (R28, R106). -/
def State.nextAhead (s : State) (c : Cursor) : Option GrantRecord :=
  s.grantTable.records.find? fun r => c.isAhead r

/-- The Sweep Engine recalls an examined record and adds it to the pending set (R107, R108). -/
def State.sweepRecall (s : State) (slot : Nat) (wanted : Wanted) : State :=
  ((s.requestRecall slot wanted .sweep).modRecord slot fun x => { x with sweepPending := true }).modSweep
    fun w => { w with tallies := w.tallies.addRecalled }

/-- The action of the sweep's kind on an examined record (R107, R108, R109). -/
def State.sweepAction (s : State) (kind : SweepKind) (r : GrantRecord) : State :=
  match kind, r.mode with
  | .revoke, _ => s.sweepRecall r.slot .release
  | .demote, .exclusive => s.sweepRecall r.slot .downgrade
  | .demote, .shared => s
  | .census, _ => s

/-- A step reaches a record: the cursor is placed just after it, and it is examined or passed (R106). -/
def State.sweepReach (s : State) (w : Sweep) (r : GrantRecord) : State :=
  let s1 := s.modSweep fun w => { w with phase := .scanning (.after r.extent.start r.slot) }
  if r.extent.overlaps w.range && inMask w.mask r.holder then
    (s1.modSweep fun w => { w with tallies := w.tallies.addExamined r.mode }).sweepAction w.kind r
  else s1

/-- The scan is finished: DRAINING, and complete at once if nothing is pending (R106, R113). -/
def State.finishScan (s : State) : State :=
  (s.modSweep fun w => { w with phase := .draining }).completeIfDrained

/-- A step that made an entry leave the Wait List, or ended the sweep, is followed by one walk (R40, R107, R113). -/
def State.walkAfterStep (before after : State) : State :=
  if after.waitList.length < before.waitList.length ∨ after.sweep = none then after.reevaluate else after

/-- One sweep step (R106). -/
def State.sweepOnce (s : State) : State :=
  match s.sweep with
  | none => s
  | some w =>
    match w.phase with
    | .draining => s
    | .scanning c =>
      match s.nextAhead c with
      | none => s.walkAfterStep s.finishScan
      | some r =>
        if r.extent.start < w.range.stop then s.walkAfterStep (s.sweepReach w r)
        else s.walkAfterStep s.finishScan

/-- SWEEP_STEP (R106). -/
def execSweepStep (s : State) : Host.Outcome State Fault Refusal := .next s.sweepOnce

/-- Every record leaves the pending set (R9, R114 step 2). -/
def State.clearPending (s : State) : State :=
  s.setRecords (s.grantTable.records.map fun r => { r with sweepPending := false })

end Sys2Proof.Machine
end

