-- ==== Sys2Proof/Machine/Commands.lean ====
section
/-!
DEFINITION. The management commands (Chapter 8): the taking of a command and its REPLY (R157, R159), and each command's
tests and effect.
-/

namespace Sys2Proof.Machine

/-! ## Taking and answering (R157, R159) -/

/-- What a command comes to. A refused command changes no state of any block (R159). -/
inductive Answer where
  | refuse (status : Status)
  | done (state : State) (result : MgmtResult)

/-- The state once the command at the head has left the buffer: its credit is to return, a slot is RESERVED and the
commands taken counter is raised (R157). -/
def State.afterTakingCommand (s : State) : State :=
  s.modMgmt fun l =>
    { l with command := l.command.takeHead, replies := l.replies.reserve, counters := l.counters.addCommand }

/-- Take the command at the head of the buffer, if it is of kind `k`, LI-M is in RUN and a slot is FREE (R157). -/
def State.takeCommand (s : State) (k : CommandKind) : Option (Frame CommandKind × State) :=
  match s.mgmtLink.command.frames with
  | [] => none
  | f :: _ =>
    if f.kind = k && s.mgmtLink.linkState = .run && s.mgmtLink.replies.hasFree Config.mgmtReplySlots then
      some (f, s.afterTakingCommand)
    else none

/-- Place the REPLY to a command (R157, R159). -/
def State.answer (s : State) (tag : Nat) : Answer → State
  | .refuse status => s.placeMgmtReply { tag := tag, status := status, result := .empty }
  | .done t result => t.placeMgmtReply { tag := tag, status := .ok, result := result }

/-- A happening that takes a command of kind `k` and carries it out. Where none can be taken, nothing happens
(assumption 2). -/
def State.onCommand (s : State) (k : CommandKind) (act : State → List Byte → Answer) : State :=
  match s.takeCommand k with
  | none => s
  | some (f, t) => t.answer f.tag (act t f.body)

/-- The agent number a byte names, if it names one. -/
def agentOf (n : Nat) : Option AgentId := if h : n < 8 then some ⟨n, h⟩ else none

/-- A command on one agent: BAD_PARAM for the body length, then BAD_AGENT (R165, R168). -/
def State.onAgent (act : State → AgentId → Answer) (s : State) (body : List Byte) : Answer :=
  match agentByte body with
  | none => .refuse .badParam
  | some n =>
    match agentOf n with
    | none => .refuse .badAgent
    | some a => act s a

/-! ## CONFIGURE (R162) and SET_PARAM (R163, R164) -/

/-- Steps 1 to 6 of R162. -/
def State.applyConfigure (s : State) (q : ConfigureFields) : State :=
  let sessions := allAgents.foldl
    (fun p a => p.modify a fun x =>
      { x with admitFlag := q.admitMask.getLsbD a.val, group := q.groupOf.get a }) s.sessions
  { s with
    management := { state := .running, params := q.params }
    grantTable := { s.grantTable with counter := max s.grantTable.counter q.tokenFloor }
    sessions := sessions
    churn := { s.churn with groups := q.groups }
    mgmtLink := { s.mgmtLink with reportCredit := q.params.reportWindow } }

def State.runConfigure (s : State) (body : List Byte) : Answer :=
  if s.management.state ≠ .unconfigured then .refuse .wrongState
  else match configureFields body with
    | none => .refuse .badParam
    | some q => .done (s.applyConfigure q) .empty

def State.setParams (s : State) (f : Params → Params) : State :=
  { s with management := { s.management with params := f s.management.params } }

/-- Change the settings of a group. -/
def State.setGroup (s : State) (g : GroupId) (f : GroupSettings → GroupSettings) : State :=
  { s with churn := { s.churn with groups := s.churn.groups.set g (f (s.churn.groups.get g)) } }

/-- Some record or wait entry ends past a proposed V (R3, R54). -/
def State.usesBeyond (s : State) (volume : Nat) : Bool :=
  (s.grantTable.records.any fun r => volume < r.extent.stop) || (s.waitList.any fun e => volume < e.extent.stop)

/-- The group a selector or a value names, if it names one. -/
def groupOf (n : Nat) : Option GroupId := if n = 0 then some 0 else if n = 1 then some 1 else none

/-- SET_PARAM of a group setting (identifiers 0x05 to 0x08): test 4 of R163 and the effect (R124). -/
def State.setGroupParam (s : State) (identifier selector value : Nat) : Answer :=
  match groupOf selector with
  | none => .refuse .badParam
  | some g =>
    let now := s.churn.groups.get g
    match identifier with
    | 0x05 =>
      if value ≤ 1 then .done ((s.setGroup g fun x => { x with enable := value = 1 }).clearGroupWindows g) .empty
      else .refuse .badParam
    | 0x06 =>
      if 1 ≤ value ∧ value ≤ 64 ∧ now.threshold ≤ value then
        .done ((s.setGroup g fun x => { x with window := value }).clearGroupWindows g) .empty
      else .refuse .badParam
    | 0x07 =>
      if 1 ≤ value ∧ value ≤ now.window then
        .done ((s.setGroup g fun x => { x with threshold := value }).clearGroupWindows g) .empty
      else .refuse .badParam
    | _ =>
      if value ≤ 1 then .done (s.setGroup g fun x => { x with notify := value = 1 }) .empty
      else .refuse .badParam

/-- SET_PARAM of an agent's group (identifier 0x09): tests 3 and 4 of R163 and the effect (R125). -/
def State.setAgentGroup (s : State) (selector value : Nat) : Answer :=
  match agentOf selector with
  | none => .refuse .badAgent
  | some a =>
    match groupOf value with
    | none => .refuse .badParam
    | some g => .done ((s.modSession a fun x => { x with group := g }).clearWindow a) .empty

/-- Tests 2 to 5 of R163, once the body has been read, and the effect (R164). -/
def State.setOneParam (s : State) (q : SetParamFields) : Answer :=
  match q.identifier with
  | 0x01 =>
    if !volumeInRange q.value then .refuse .badParam
    else if s.usesBeyond q.value then .refuse .inUse
    else .done (s.setParams fun p => { p with volume := q.value }) .empty
  | 0x02 =>
    if leaseInRange q.value then .done (s.setParams fun p => { p with leasePeriod := q.value }) .empty
    else .refuse .badParam
  | 0x03 =>
    if recallTimeoutInRange q.value then .done (s.setParams fun p => { p with recallTimeout := q.value }) .empty
    else .refuse .badParam
  | 0x04 =>
    if attemptLimitInRange q.value then .done (s.setParams fun p => { p with attemptLimit := q.value }) .empty
    else .refuse .badParam
  | 0x05 => s.setGroupParam 0x05 q.selector q.value
  | 0x06 => s.setGroupParam 0x06 q.selector q.value
  | 0x07 => s.setGroupParam 0x07 q.selector q.value
  | 0x08 => s.setGroupParam 0x08 q.selector q.value
  | 0x09 => s.setAgentGroup q.selector q.value
  | _ => .refuse .badParam

def State.runSetParam (s : State) (body : List Byte) : Answer :=
  if s.management.state = .unconfigured then .refuse .wrongState
  else match setParamFields body with
    | none => .refuse .badParam
    | some q => s.setOneParam q

/-! ## ADMIT, EVICT and ACK_CHURN (R96, R97, R123) -/

/-- ADMIT's effect on a session record (R96). -/
def Session.admitted (x : Session) : Session :=
  { x with admitFlag := true, state := if x.state = .fenced then .offline else x.state }

def State.runAdmit (s : State) (a : AgentId) : Answer := .done (s.modSession a Session.admitted) .empty

/-- EVICT: the flag is cleared in every session state, and an ACTIVE agent is fenced (R97). -/
def State.runEvict (s : State) (a : AgentId) : Answer :=
  let t := s.modSession a fun x => { x with admitFlag := false }
  match (s.session a).state with
  | .active _ => .done (t.fence a .evicted) .empty
  | _ => .done t .empty

def State.runAckChurn (s : State) (a : AgentId) : Answer :=
  .done (s.modMember a fun m => { m with alarm := false }) .empty

/-! ## PAUSE and RESUME (R161) -/

def State.setDirectory (s : State) (d : DirectoryState) : State :=
  { s with management := { s.management with state := d } }

def State.runPause (s : State) (body : List Byte) : Answer :=
  if s.management.state ≠ .running then .refuse .wrongState
  else if body.length ≠ 0 then .refuse .badParam
  else .done (s.setDirectory .paused) .empty

def State.runResume (s : State) (body : List Byte) : Answer :=
  if s.management.state ≠ .paused then .refuse .wrongState
  else if body.length ≠ 0 then .refuse .badParam
  else .done (s.setDirectory .running) .empty

/-! ## SWEEP_START and SWEEP_ABORT (R103, R104, R114) -/

/-- The sweep an accepted SWEEP_START starts (R104). -/
def startedSweep (q : SweepStartFields) (kind : SweepKind) : Sweep :=
  { id := q.id, kind := kind, range := q.range, mask := q.mask, phase := .scanning (startCursor q.range),
    tallies := .zero }

def State.runSweepStart (s : State) (body : List Byte) : Answer :=
  if s.management.state = .unconfigured then .refuse .wrongState
  else match sweepStartFields body with
    | none => .refuse .badParam
    | some q =>
      if s.sweep.isSome then .refuse .sweepBusy
      else match SweepKind.ofCode q.kindByte with
        | none => .refuse .badParam
        | some kind =>
          if q.mask = 0 then .refuse .badParam
          else if !q.range.valid s.params.volume then .refuse .badExtent
          else .done { s with sweep := some (startedSweep q kind) } .empty

def State.runSweepAbort (s : State) (body : List Byte) : Answer :=
  if body.length ≠ 0 then .refuse .badParam
  else if s.sweep = none then .refuse .noSweep
  else .done ((s.clearPending.endSweep .aborted).reevaluate) .empty

/-! ## Queries and counters (R167 to R170) -/

def State.runQueryExtent (s : State) (body : List Byte) : Answer :=
  if s.management.state = .unconfigured then .refuse .wrongState
  else match queryFields body with
    | none => .refuse .badParam
    | some q =>
      if !q.extent.valid s.params.volume then .refuse .badExtent
      else .done s (.extent (s.walkDescriptors q.extent q.resumeAt) (s.walkHasMore q.extent q.resumeAt))

def SessionState.status : SessionState → SessionStatus
  | .offline => .offline
  | .active _ => .active
  | .fenced => .fenced

/-- The QUERY_AGENT result (R168), each field as its owner gives it. -/
def State.agentInfo (s : State) (a : AgentId) : AgentInfo :=
  let x := s.session a
  let m := s.member a
  let held := s.recordsOf a
  { session := x.state.status
    epoch := x.epoch
    admitFlag := x.admitFlag
    fenceCause := x.fenceCause
    recordsHeld := held.length
    recallsOutstanding := held.countP fun r => r.recallRecord.isSome
    sweepRecalls := held.countP fun r => r.recallRecord.any fun rc => rc.cause = .sweep
    messagesWaiting := (s.sendList a).length
    entriesWaiting := (s.entriesOf a).length
    linkState := (s.link a).linkState
    group := x.group
    windowLength := m.window.length
    recalledCount := recalledCount m.window
    alarm := m.alarm
    group0Alarm := s.groupAlarm 0
    group1Alarm := s.groupAlarm 1 }

def State.runQueryAgent (s : State) (a : AgentId) : Answer := .done s (.agent (s.agentInfo a))

/-- The STATUS body (R170). -/
def State.statusBody (s : State) : StatusBody :=
  { directory := s.management.state
    recordCount := s.grantTable.records.length
    entryCount := s.waitList.length
    sweep := s.sweepStatus
    suspended := s.reportQueue.suspended
    lost := s.reportQueue.lost
    grantCounter := s.grantTable.counter
    group0Alarm := s.groupAlarm 0
    group1Alarm := s.groupAlarm 1 }

/-- READ_COUNTERS of an agent (R169). -/
def State.readAgentCounters (s : State) (a : AgentId) (clear : Bool) : Answer :=
  .done (if clear then s.modCounters a fun _ => .zero else s) (.agentCounters (s.session a).counters)

/-- READ_COUNTERS of LI-M, with the STATUS body (R169, R170). -/
def State.readMgmtCounters (s : State) (clear : Bool) : Answer :=
  .done (if clear then s.modMgmtCounters fun _ => .zero else s)
    (.mgmtCounters s.mgmtLink.counters s.statusBody)

def State.runReadCounters (s : State) (body : List Byte) : Answer :=
  match readCountersFields body with
  | none => .refuse .badParam
  | some (n, clear) =>
    if 8 < n then .refuse .badAgent
    else if 1 < clear then .refuse .badParam
    else match agentOf n with
      | some a => s.readAgentCounters a (clear = 1)
      | none => s.readMgmtCounters (clear = 1)

/-! ## REPORT_RESUME (R176) -/

def State.runReportResume (s : State) (body : List Byte) : Answer :=
  if body.length ≠ 0 then .refuse .badParam
  else if s.reportQueue.suspended then
    .done { s with reportQueue := { s.reportQueue with marker := false, suspended := false, lost := 0 } }
      (.lost s.reportQueue.lost)
  else .done s (.lost 0)

/-! ## RESET_DIRECTORY (R171) -/

/-- The reset's action on one session (R99). -/
def State.resetSession (s : State) (a : AgentId) : State :=
  match (s.session a).state with
  | .active _ =>
    (s.modSession a fun x => { x with state := .offline }).placeNotice a .directoryReset (s.session a).epoch
  | _ => s

/-- Steps 1 to 6 of R171. -/
def State.resetTables (s : State) : State :=
  let s1 := (s.setWaitList []).refuseEntries s.waitList .directoryReset
  let s2 := s1.dropAllRecords
  let s3 := { s2 with sendLists := .const [] }
  let s4 := s3.endSweep .aborted
  let s5 := allAgents.foldl State.resetSession s4
  { s5 with churn := { s5.churn with members := .const { window := [], alarm := false } } }

def State.runResetDirectory (s : State) (body : List Byte) : Answer :=
  if s.management.state = .unconfigured then .refuse .wrongState
  else if body.length ≠ 0 then .refuse .badParam
  else .done s.resetTables .empty

/-! ## The meanings -/

/-- CONFIGURE (R162). -/
def execConfigure (s : State) : Host.Outcome State Fault Refusal := .next (s.onCommand .configure State.runConfigure)

/-- SET_PARAM (R163). -/
def execSetParam (s : State) : Host.Outcome State Fault Refusal := .next (s.onCommand .setParam State.runSetParam)

/-- ADMIT (R96, R165). -/
def execAdmit (s : State) : Host.Outcome State Fault Refusal :=
  .next (s.onCommand .admitAgent (State.onAgent State.runAdmit))

/-- EVICT (R97, R165). -/
def execEvict (s : State) : Host.Outcome State Fault Refusal :=
  .next (s.onCommand .evict (State.onAgent State.runEvict))

/-- PAUSE (R161). -/
def execPause (s : State) : Host.Outcome State Fault Refusal := .next (s.onCommand .pause State.runPause)

/-- RESUME (R161). -/
def execResume (s : State) : Host.Outcome State Fault Refusal := .next (s.onCommand .resume State.runResume)

/-- SWEEP_START (R103, R166). -/
def execSweepStart (s : State) : Host.Outcome State Fault Refusal :=
  .next (s.onCommand .sweepStart State.runSweepStart)

/-- SWEEP_ABORT (R114, R166). -/
def execSweepAbort (s : State) : Host.Outcome State Fault Refusal :=
  .next (s.onCommand .sweepAbort State.runSweepAbort)

/-- QUERY_EXTENT (R167). -/
def execQueryExtent (s : State) : Host.Outcome State Fault Refusal :=
  .next (s.onCommand .queryExtent State.runQueryExtent)

/-- QUERY_AGENT (R168). -/
def execQueryAgent (s : State) : Host.Outcome State Fault Refusal :=
  .next (s.onCommand .queryAgent (State.onAgent State.runQueryAgent))

/-- ACK_CHURN (R123, R165). -/
def execAckChurn (s : State) : Host.Outcome State Fault Refusal :=
  .next (s.onCommand .ackChurn (State.onAgent State.runAckChurn))

/-- REPORT_RESUME (R176). -/
def execReportResume (s : State) : Host.Outcome State Fault Refusal :=
  .next (s.onCommand .reportResume State.runReportResume)

/-- READ_COUNTERS (R169). -/
def execReadCounters (s : State) : Host.Outcome State Fault Refusal :=
  .next (s.onCommand .readCounters State.runReadCounters)

/-- RESET_DIRECTORY (R171). -/
def execResetDirectory (s : State) : Host.Outcome State Fault Refusal :=
  .next (s.onCommand .resetDirectory State.runResetDirectory)

end Sys2Proof.Machine
end

