-- ==== Sys2Proof/Machine/Deadlines.lean ====
section
/-!
DEFINITION. Power-on, the Time Base, and the happenings in which deadlines pass (R2, R48, R66, R89). A deadline passes at
the count that reaches it: at another count its happening does not take place (assumption 2), and the count does not go on
while a deadline is due (assumption 3).
-/

namespace Sys2Proof.Machine

/-- POWER_ON (R2): every block is at its power-on value. The queue of waiting commands is not the part's. -/
def execPowerOn (s : State) : Host.Outcome State Fault Refusal := .next { State.reset with pending := s.pending }

/-- The count has just reached a deadline that stands: a wait entry's, a recall's or an ACTIVE session's (R2). -/
def State.deadlineDue (s : State) : Bool :=
  (s.waitList.any fun e => e.deadline = s.timeBase) ||
  (s.grantTable.records.any fun r => r.recallRecord.any fun rc => rc.deadline = s.timeBase) ||
  (allAgents.any fun a => (s.session a).state = .active s.timeBase)

/-- The count a millisecond later; it stops at its maximum (R2). -/
def State.timeAdvances (s : State) : State :=
  { s with timeBase := if s.timeBase < Config.timeMax then s.timeBase + 1 else s.timeBase }

/-- MILLISECOND_TICK (R2); it does not take place while a deadline is due (assumption 3). -/
def execMillisecondTick (s : State) : Host.Outcome State Fault Refusal :=
  .next (if s.deadlineDue then s else s.timeAdvances)

/-- The deadline of agent `a`'s entry with a tag passes (R48). -/
def State.waitDeadlinePasses (s : State) (a : AgentId) (tag : Nat) : State :=
  match s.waitList.find? fun e => e.agent = a && e.tag = tag with
  | none => s
  | some e => if e.deadline = s.timeBase then s.expelEntry a tag .timedOut else s

/-- WAIT_DEADLINE (R48). -/
def execWaitDeadline (a : AgentId) (tag : Nat) (s : State) : Host.Outcome State Fault Refusal :=
  .next (s.waitDeadlinePasses a tag)

/-- The deadline of the recall on the record in a slot passes (R66): resent (R67), or exhausted and its holder
fenced (R68). -/
def State.recallDeadlinePasses (s : State) (slot : Nat) : State :=
  match s.recordAt slot with
  | none => s
  | some r =>
    match r.recallRecord with
    | none => s
    | some rc =>
      if rc.deadline = s.timeBase then
        if rc.attempts < s.params.attemptLimit then s.resendRecall r rc else s.fence r.holder .recallTimeout
      else s

/-- RECALL_DEADLINE (R66). -/
def execRecallDeadline (slot : Nat) (s : State) : Host.Outcome State Fault Refusal :=
  .next (s.recallDeadlinePasses slot)

/-- The session lease deadline of agent `a` passes (R89). -/
def State.leaseDeadlinePasses (s : State) (a : AgentId) : State :=
  match (s.session a).state with
  | .active deadline => if deadline = s.timeBase then s.fence a .leaseExpired else s
  | _ => s

/-- SESSION_LEASE_EXPIRY (R89). -/
def execSessionLeaseExpiry (a : AgentId) (s : State) : Host.Outcome State Fault Refusal :=
  .next (s.leaseDeadlinePasses a)

end Sys2Proof.Machine
end

