-- ==== Sys2Proof/Machine/MgmtLinks.lean ====
section
/-!
DEFINITION. The management link LI-M (sections 8.1 and 8.8): arrival, SYNC, REPORT_ACK, the arbiter and the sends.
-/

namespace Sys2Proof.Machine

/-! ## SYNC (R156) -/

/-- A good SYNC's effect on LI-M (R156, less the report). -/
def MgmtLink.synced (l : MgmtLink) (reportWindow count : Nat) : MgmtLink :=
  let m := if l.linkState = .waitSync then l.enterRun else l
  let command := m.command.rebuild Config.commandCapacity
  { m with command := command, reportCredit := min count reportWindow, syncAck := some command.outstanding }

/-- A good SYNC on LI-M (R156). -/
def State.mgmtGoodSync (s : State) (count : Nat) : State :=
  let s1 := if s.mgmtLink.linkState = .waitSync then s.report (.linkState .mgmt .run .sync) else s
  s1.modMgmt fun l => l.synced s.params.reportWindow count

/-- A SYNC on LI-M: BAD_SYNC if its body length is not 1 (R154, R181). -/
def State.mgmtSyncArrives (s : State) (f : RawFrame) : State :=
  if f.body.length ≠ 1 then s.mgmtProtocolError .badSync kindSync else s.mgmtGoodSync (field f.body 0 1)

/-! ## Arrival (R154) -/

/-- Add a frame's report credit, capped at the report window (R154). -/
def State.addReportCredit (s : State) (x : Nat) : State :=
  s.modMgmt fun l => { l with reportCredit := min (l.reportCredit + x) s.params.reportWindow }

/-- A frame of the command class arrives in RUN (R154). -/
def State.commandArrives (s : State) (k : CommandKind) (f : RawFrame) : State :=
  if s.mgmtLink.command.outstanding = 0 then s.mgmtLinkError .creditOverrun
  else (s.addReportCredit f.creditX).modMgmt fun l =>
    { l with command := l.command.buffer { kind := k, tag := f.tag, epoch := f.epoch, body := f.body } }

/-- A frame of unknown kind arrives in RUN (R154). -/
def State.mgmtUnknownArrives (s : State) (f : RawFrame) : State :=
  if s.mgmtLink.command.outstanding = 0 then s.mgmtLinkError .creditOverrun
  else ((s.addReportCredit f.creditX).modMgmt fun l =>
    { l with command := l.command.discardArrival }).mgmtProtocolError .unknownKind f.kind

/-- A CRC failure on LI-M is counted (R154). -/
def State.mgmtCrcFailure (s : State) : State := s.modMgmtCounters MgmtCounters.addCrcError

def State.mgmtArrivesInRun (s : State) (bytes : List Byte) : State :=
  match checkFrame bytes with
  | .framingFault => s.mgmtLinkError .framingError
  | .crcFailure => s.mgmtCrcFailure.mgmtLinkError .crcError
  | .wellFormed f =>
    match mgmtClass f.kind with
    | .sync => s.mgmtSyncArrives f
    | .command k => s.commandArrives k f
    | .unknown => s.mgmtUnknownArrives f

def State.mgmtArrivesInWaitSync (s : State) (bytes : List Byte) : State :=
  match checkFrame bytes with
  | .framingFault => s
  | .crcFailure => s.mgmtCrcFailure
  | .wellFormed f => if f.kind = kindSync then s.mgmtSyncArrives f else s

/-- A frame arrives on LI-M; in DOWN nothing is received (R154). -/
def State.mgmtFrameArrives (s : State) (bytes : List Byte) : State :=
  match s.mgmtLink.linkState with
  | .down => s
  | .waitSync => s.mgmtArrivesInWaitSync bytes
  | .run => s.mgmtArrivesInRun bytes

/-- MGMT_FRAME_ARRIVAL (R154). -/
def execMgmtFrameArrival (bytes : List Byte) (s : State) : Host.Outcome State Fault Refusal :=
  .next (s.mgmtFrameArrives bytes)

/-! ## REPORT_ACK (R157, R182) -/

/-- Take REPORT_ACK from the head of the command buffer: no slot is needed (R157). -/
def State.reportAckTaken (s : State) : State :=
  match s.mgmtLink.command.frames with
  | [] => s
  | f :: _ =>
    if f.kind = .reportAck ∧ s.mgmtLink.linkState = .run then
      let t := s.modMgmt fun l => { l with command := l.command.takeHead }
      if f.body.length = 0 then t else t.mgmtProtocolError .badLength kindReportAck
    else s

/-- REPORT_ACK (R157). -/
def execReportAck (s : State) : Host.Outcome State Fault Refusal := .next s.reportAckTaken

/-! ## The arbiter and the sends (R158, R175) -/

/-- What stands at the head of the Report Queue (R173, R175). -/
inductive QueueHead where
  | report (report : Report)
  | overflow (lost : Nat)
deriving DecidableEq, Repr

def ReportQueue.head (q : ReportQueue) : Option QueueHead :=
  match q.reports with
  | r :: _ => some (.report r)
  | [] => if q.marker then some (.overflow q.lost) else none

/-- What an arbiter may choose on LI-M (R158). -/
inductive MgmtSend where
  | syncAck (command : Nat)
  | reply (reply : MgmtReply)
  | report (head : QueueHead)
  | credit
deriving DecidableEq, Repr

/-- The report lane is ready when there is report credit and something in the queue (R158). -/
def State.reportLane (s : State) : Option QueueHead :=
  if 0 < s.mgmtLink.reportCredit then s.reportQueue.head else none

/-- The arbiter's choice on LI-M in RUN with its transmitter IDLE (R158). -/
def State.mgmtChoice (s : State) : Option MgmtSend :=
  let l := s.mgmtLink
  match l.syncAck with
  | some n => some (.syncAck n)
  | none =>
    match l.replies.filled.head?, s.reportLane with
    | some r, some h => if l.turn = .reply then some (.reply r) else some (.report h)
    | some r, none => some (.reply r)
    | none, some h => some (.report h)
    | none, none => if 0 < l.command.toReturn then some .credit else none

/-- The body of the REPORT that the head of the queue becomes (R175). -/
def QueueHead.body : QueueHead → List Byte
  | .report r => r.body
  | .overflow lost => overflowBody lost

/-- The bytes of the chosen frame: header filled as R155 and R178 give. -/
def State.mgmtFrameBytes (s : State) (choice : MgmtSend) : List Byte :=
  let frame (kind tag : Nat) (body : List Byte) : List Byte :=
    frameBytes kind tag 0 s.mgmtLink.command.toReturn 0 body
  match choice with
  | .syncAck n => frame kindSyncAck 0 (beBytes 1 n ++ beBytes 1 0)
  | .reply r => frame kindReply r.tag r.body
  | .report h => frame kindReport 0 h.body
  | .credit => frame kindCredit 0 []

/-- The head of the Report Queue leaves it; the queue stays SUSPENDED if it was (R175). -/
def ReportQueue.dropHead (q : ReportQueue) : ReportQueue :=
  match q.reports with
  | _ :: rest => { q with reports := rest }
  | [] => { q with marker := false }

/-- The chosen frame leaves its lane (R158, R175). -/
def State.leaveMgmtLane (s : State) (choice : MgmtSend) : State :=
  match choice with
  | .syncAck _ => s.modMgmt fun l => { l with syncAck := none }
  | .reply r =>
    let t := s.modMgmt fun l => { l with replies := l.replies.sendHead, turn := .report }
    if r.status = .ok then t else t.modMgmtCounters MgmtCounters.addRefused
  | .report _ =>
    let t := s.modMgmt fun l => { l with reportCredit := l.reportCredit - 1, turn := .reply }
    { t with reportQueue := t.reportQueue.dropHead }
  | .credit => s

/-- A send on LI-M (R155, R158). -/
def State.mgmtSends (s : State) (choice : MgmtSend) : State :=
  (s.leaveMgmtLane choice).modMgmt fun l =>
    { l with command := l.command.giveBack, transmitter := .busy (s.mgmtFrameBytes choice) }

def State.mgmtLinkSends (s : State) : State :=
  if s.mgmtLink.linkState = .run ∧ s.mgmtLink.transmitter = .idle then
    match s.mgmtChoice with
    | none => s
    | some choice => s.mgmtSends choice
  else s

/-- MGMT_LINK_SEND (R158). -/
def execMgmtLinkSend (s : State) : Host.Outcome State Fault Refusal := .next s.mgmtLinkSends

end Sys2Proof.Machine
end

