-- ==== Sys2Proof/Machine/Dispatch.lean ====
section
/-! DEFINITION. The dispatch: one arm for each command, each one direct call of its meaning. -/

namespace Sys2Proof.Machine

-- The effect of a command on everything but the queue (R1).
def exec (i : Instr) (s : State) : Host.Outcome State Fault Refusal :=
  match i with
  | .powerOn => Sys2Proof.Machine.execPowerOn s
  | .millisecondTick => Sys2Proof.Machine.execMillisecondTick s
  | .signalFound link => Sys2Proof.Machine.execSignalFound link s
  | .signalLost link => Sys2Proof.Machine.execSignalLost link s
  | .frameArrival a bytes => Sys2Proof.Machine.execFrameArrival a bytes s
  | .join a => Sys2Proof.Machine.execJoin a s
  | .acquire a => Sys2Proof.Machine.execAcquire a s
  | .convert a => Sys2Proof.Machine.execConvert a s
  | .query a => Sys2Proof.Machine.execQuery a s
  | .leave a => Sys2Proof.Machine.execLeave a s
  | .release a => Sys2Proof.Machine.execRelease a s
  | .downgrade a => Sys2Proof.Machine.execDowngrade a s
  | .cancel a => Sys2Proof.Machine.execCancel a s
  | .keepalive a => Sys2Proof.Machine.execKeepalive a s
  | .waitDeadline a tag => Sys2Proof.Machine.execWaitDeadline a tag s
  | .recallDeadline slot => Sys2Proof.Machine.execRecallDeadline slot s
  | .sessionLeaseExpiry a => Sys2Proof.Machine.execSessionLeaseExpiry a s
  | .sweepStep => Sys2Proof.Machine.execSweepStep s
  | .agentLinkSend a => Sys2Proof.Machine.execAgentLinkSend a s
  | .endOfTransmission link => Sys2Proof.Machine.execEndOfTransmission link s
  | .mgmtFrameArrival bytes => Sys2Proof.Machine.execMgmtFrameArrival bytes s
  | .mgmtLinkSend => Sys2Proof.Machine.execMgmtLinkSend s
  | .reportAck => Sys2Proof.Machine.execReportAck s
  | .configure => Sys2Proof.Machine.execConfigure s
  | .setParam => Sys2Proof.Machine.execSetParam s
  | .admitAgent => Sys2Proof.Machine.execAdmit s
  | .evict => Sys2Proof.Machine.execEvict s
  | .pause => Sys2Proof.Machine.execPause s
  | .resume => Sys2Proof.Machine.execResume s
  | .sweepStart => Sys2Proof.Machine.execSweepStart s
  | .sweepAbort => Sys2Proof.Machine.execSweepAbort s
  | .queryExtent => Sys2Proof.Machine.execQueryExtent s
  | .queryAgent => Sys2Proof.Machine.execQueryAgent s
  | .ackChurn => Sys2Proof.Machine.execAckChurn s
  | .reportResume => Sys2Proof.Machine.execReportResume s
  | .readCounters => Sys2Proof.Machine.execReadCounters s
  | .resetDirectory => Sys2Proof.Machine.execResetDirectory s

end Sys2Proof.Machine
end

