-- ==== Sys2Proof/Safety.lean ====
section
/-!
DEFINITION. What a sound state of the part is: one law for each promise the spec makes about the whole part. Each law is
meant to hold at power-on and to be kept by every step; the obligations say so.
-/

namespace Sys2Proof.Safety

open Sys2Proof.Machine

/-! ## Counts that cannot pass their capacity -/

/-- The Time Base has stopped at 2^64 − 1 at the latest (R2). -/
def TimeLaw (s : State) : Prop := s.timeBase ≤ Config.timeMax

/-- No deadline that stands lies behind the count: each passes in the happening in which the count reaches it (R2). -/
def DeadlineLaw (s : State) : Prop :=
  (∀ e ∈ s.waitList, s.timeBase ≤ e.deadline) ∧
  (∀ r ∈ s.grantTable.records, ∀ rc, r.recallRecord = some rc → s.timeBase ≤ rc.deadline) ∧
  ∀ a d, (s.session a).state = .active d → s.timeBase ≤ d

/-- The Report Queue holds at most 64 reports and at most one marker; a marker stands only while SUSPENDED, and nothing
is counted as lost while ACCEPTING (R173, R174, R176). -/
def ReportQueueLaw (s : State) : Prop :=
  s.reportQueue.reports.length ≤ Config.reportCapacity ∧
  (s.reportQueue.marker = true → s.reportQueue.suspended = true) ∧
  (s.reportQueue.suspended = false → s.reportQueue.lost = 0) ∧
  s.reportQueue.lost ≤ Config.counterMax

/-- A control lane holds at most 16 NOTICE frames and at most one SYNC_ACK (R143, R144). -/
def ControlLaneLaw (s : State) : Prop :=
  ∀ a : AgentId, (s.link a).control.countP ControlFrame.isNotice ≤ Config.noticeCapacity ∧
    (s.link a).control.countP (fun c => !c.isNotice) ≤ 1

/-- Outstanding credit, frames held and credit to return add up to the capacity, or all three are 0: the latter before
the first SYNC after power-on (R137, R155). -/
def Balanced {κ : Type} (capacity : Nat) (g : Ingress κ) : Prop :=
  g.outstanding + g.frames.length + g.toReturn = capacity ∨
  g.outstanding + g.frames.length + g.toReturn = 0

/-- Every ingress class keeps its credit account (R137, R155). -/
def IngressLaw (s : State) : Prop :=
  (∀ a : AgentId, Balanced Config.answerableCapacity (s.link a).answerable ∧
    Balanced Config.closingCapacity (s.link a).closing) ∧
  Balanced Config.commandCapacity s.mgmtLink.command

/-- The recall credit lies within the recall window, which is at most 16, and the report credit within the report window
(R77, R139, R153, R177). -/
def EgressLaw (s : State) : Prop :=
  (∀ a : AgentId, (s.link a).recallCredit ≤ (s.session a).recallWindow ∧
    (s.session a).recallWindow ≤ Config.maxRecallWindow) ∧
  s.mgmtLink.reportCredit ≤ s.params.reportWindow

/-- Every wait entry holds a RESERVED slot of its agent's reply area and every other RESERVED or FILLED slot holds a
reply, 32 in all at most; LI-M answers at once and holds at most 4 (R29, R34, R157). -/
def ReplySlotLaw (s : State) : Prop :=
  (∀ a : AgentId, (s.link a).replies.reserved = (s.entriesOf a).length ∧
    (s.link a).replies.reserved + (s.link a).replies.filled.length ≤ Config.agentReplySlots) ∧
  s.mgmtLink.replies.reserved = 0 ∧ s.mgmtLink.replies.filled.length ≤ Config.mgmtReplySlots

/-! ## Churn Monitor -/

/-- Each group's C lies in 1 to W and W in 1 to 64; each window holds at most the W of its agent's group; before
CONFIGURE every window is empty (R118, R121, R125). -/
def ChurnLaw (s : State) : Prop :=
  (∀ g : GroupId, 1 ≤ (s.churn.groups.get g).threshold ∧
    (s.churn.groups.get g).threshold ≤ (s.churn.groups.get g).window ∧ (s.churn.groups.get g).window ≤ 64) ∧
  (∀ a : AgentId, (s.member a).window.length ≤ (s.settings a).window) ∧
  (s.management.state = .unconfigured → ∀ a : AgentId, (s.member a).window = [])

/-! ## Parameters -/

/-- The parameters lie in their ranges; V and the report window are 0 exactly until CONFIGURE (section 8.4). -/
def ParamLaw (s : State) : Prop :=
  leaseInRange s.params.leasePeriod = true ∧ recallTimeoutInRange s.params.recallTimeout = true ∧
  attemptLimitInRange s.params.attemptLimit = true ∧
  (if s.management.state = .unconfigured then s.params.volume = 0 ∧ s.params.reportWindow = 0
   else volumeInRange s.params.volume = true ∧ reportWindowInRange s.params.reportWindow = true)

/-! ## Grant Table and Wait List -/

/-- The index is ordered by start and then slot; slots are distinct and below 4096; tokens are distinct and none exceeds
the grant counter, which stops at 2^64 − 1 (R11, R13, R15, R16). -/
def IndexLaw (s : State) : Prop :=
  s.grantTable.records.Pairwise (fun r q => r.before q = true) ∧
  s.grantTable.records.Pairwise (fun r q => r.slot ≠ q.slot) ∧
  (∀ r ∈ s.grantTable.records, r.slot < Config.slotCount) ∧
  s.grantTable.records.Pairwise (fun r q => r.token ≠ q.token) ∧
  (∀ r ∈ s.grantTable.records, r.token ≤ s.grantTable.counter) ∧
  s.grantTable.counter ≤ Config.tokenMax

/-- Two records that overlap are both SHARED and have different holders (R10). -/
def Compatible (r q : GrantRecord) : Prop :=
  r.extent.overlaps q.extent = true → r.mode = .shared ∧ q.mode = .shared ∧ r.holder ≠ q.holder

/-- No two records conflict or self-overlap (R10). -/
def NoConflict (s : State) : Prop := s.grantTable.records.Pairwise Compatible

/-- A wait entry and a record of one agent overlap only where the record is the subject of the entry's CONVERT
(R6). -/
def EntryClearOfRecord (e : WaitEntry) (r : GrantRecord) : Prop :=
  e.agent = r.holder → e.extent.overlaps r.extent = true → e.kind = .convert r.slot

/-- A waiting CONVERT's subject is a record of its agent with the entry's extent, SHARED and HELD, and the entry asks for
EXCLUSIVE (R33, R47). -/
def SubjectWaits (s : State) (e : WaitEntry) : Prop :=
  match e.kind with
  | .acquire => True
  | .convert slot => e.mode = .exclusive ∧ ∃ r ∈ s.grantTable.records, r.slot = slot ∧ r.holder = e.agent ∧
      r.extent = e.extent ∧ r.mode = .shared ∧ r.recallRecord = none

/-- The claims of one agent are disjoint, but for a CONVERT and its subject (R6, R33). -/
def ClaimLaw (s : State) : Prop :=
  s.waitList.Pairwise (fun e f => e.agent = f.agent → e.extent.overlaps f.extent = false) ∧
  (∀ e ∈ s.waitList, ∀ r ∈ s.grantTable.records, EntryClearOfRecord e r) ∧
  (∀ e ∈ s.waitList, SubjectWaits s e)

/-- Every extent of a record or an entry has at least one block and ends within the volume in force (R3). -/
def ExtentLaw (s : State) : Prop :=
  (∀ r ∈ s.grantTable.records, r.extent.valid s.params.volume = true) ∧
  (∀ e ∈ s.waitList, e.extent.valid s.params.volume = true)

/-- The lease law: the index is well formed, no two records conflict, and the claims of one agent are disjoint. -/
def LeaseLaw (s : State) : Prop := IndexLaw s ∧ NoConflict s ∧ ClaimLaw s

/-- The Wait List holds at most 128 entries, with tags 0 to 31 that are distinct within an agent (R34). -/
def WaitListLaw (s : State) : Prop :=
  s.waitList.length ≤ Config.waitCapacity ∧
  (∀ e ∈ s.waitList, e.tag ≤ Config.maxTag) ∧
  s.waitList.Pairwise (fun e f => e.agent = f.agent → e.tag ≠ f.tag)

/-! ## Sessions -/

/-- Agent `a`'s session is ACTIVE under an epoch. -/
def ActiveUnder (s : State) (a : AgentId) (epoch : Nat) : Prop :=
  (∃ d, (s.session a).state = .active d) ∧ (s.session a).epoch = epoch

/-- Every record's holder and every entry's agent is ACTIVE under the record's or entry's epoch, and a send list that
is not empty belongs to an ACTIVE agent (R25, R34, R74). -/
def SessionLaw (s : State) : Prop :=
  (∀ r ∈ s.grantTable.records, ActiveUnder s r.holder r.epoch) ∧
  (∀ e ∈ s.waitList, ActiveUnder s e.agent e.epoch) ∧
  (∀ a : AgentId, s.sendList a ≠ [] → ActiveUnder s a (s.session a).epoch)

/-- Epochs lie below 2^32, an ACTIVE session's is not 0, and an ACTIVE session's admit flag is set (R77, R79, R80). -/
def EpochLaw (s : State) : Prop :=
  ∀ a : AgentId, (s.session a).epoch ≤ Config.epochMax ∧
    ∀ d, (s.session a).state = .active d → 1 ≤ (s.session a).epoch ∧ (s.session a).admitFlag = true

/-- Nothing that a directory in UNCONFIGURED cannot have: no ACTIVE session, record, entry, RECALL message or sweep
(R160). -/
def UnconfiguredLaw (s : State) : Prop :=
  s.management.state = .unconfigured →
    (∀ a : AgentId, (s.session a).state = .offline ∧ s.sendList a = []) ∧ s.grantTable.records = [] ∧
    s.waitList = [] ∧ s.sweep = none

/-! ## Recalls and sweeps -/

/-- A recall record's attempts lie in 1 to 8, and it wants DOWNGRADE only while its record is EXCLUSIVE (R8, R57). -/
def RecallLaw (s : State) : Prop :=
  ∀ r ∈ s.grantTable.records, ∀ rc, r.recallRecord = some rc →
    1 ≤ rc.attempts ∧ rc.attempts ≤ 8 ∧ (rc.wanted = .downgrade → r.mode = .exclusive)

/-- Each waiting RECALL message is the one its record's recall calls for, the record is its agent's, and no record has
two (R62). -/
def SendListLaw (s : State) : Prop :=
  ∀ a : AgentId, (s.sendList a).Pairwise (fun m n => m.token ≠ n.token) ∧
    ∀ m ∈ s.sendList a, ∃ r ∈ s.grantTable.records, r.token = m.token ∧ r.holder = a ∧ r.extent = m.extent ∧
      ∃ rc, r.recallRecord = some rc ∧ rc.wanted = m.wanted ∧ rc.attempts = m.attempt

/-- A RECALLING entry conflicts with no entry ahead of it, and every record it conflicts with is under a recall that wants
what it needs (the paragraph under the table of R41). -/
def RecallingEntryLaw (s : State) : Prop :=
  ∀ place e, s.waitList[place]? = some e → e.state = .recalling →
    (∀ f ∈ s.waitList.take place, e.claim.hitsEntry f = false) ∧
    ∀ r ∈ s.grantTable.records, e.claim.hitsRecord r = true →
      ∃ rc, r.recallRecord = some rc ∧ (e.mode = .exclusive → rc.wanted = .release)

/-- Between happenings no entry of the Wait List is grantable: what could let one through is followed by a walk
(R36, R40). -/
def NoneGrantable (s : State) : Prop :=
  ∀ place e, s.waitList[place]? = some e → s.obstacle (s.waitList.take place) e.claim ≠ none

/-- A pending record is RECALLING, a sweep that recalls is active, and a REVOKE sweep's pending record is recalled for
RELEASE; a sweep in DRAINING waits for some record (R102, R110, R113). -/
def SweepLaw (s : State) : Prop :=
  (∀ r ∈ s.grantTable.records, r.sweepPending = true →
    ∃ w, s.sweep = some w ∧ w.kind ≠ .census ∧
      ∃ rc, r.recallRecord = some rc ∧ (w.kind = .revoke → rc.wanted = .release)) ∧
  (∀ w, s.sweep = some w → w.phase = .draining → s.pendingEmpty = false)

/-! ## What a happening may leave alone -/

/-- Nothing of a session record differs but its counts of grants and recalls issued, and neither falls. -/
def SameButIssued (x y : Session) : Prop :=
  x.counters.grantsIssued ≤ y.counters.grantsIssued ∧ x.counters.recallsIssued ≤ y.counters.recallsIssued ∧
  { x with counters := { x.counters with
      grantsIssued := y.counters.grantsIssued, recallsIssued := y.counters.recallsIssued } } = y

/-- Nothing of an agent link but its reply area differs. -/
def SameButReplies (l m : AgentLink) : Prop := { l with replies := m.replies } = m

/-- Record `q` is record `r` with nothing but token, mode and recall changed. -/
def SameLease (r q : GrantRecord) : Prop :=
  q.slot = r.slot ∧ q.holder = r.holder ∧ q.epoch = r.epoch ∧ q.extent = r.extent ∧ q.sweepPending = r.sweepPending

/-- All that a walk of the Wait List may change from `s` to `t` (R40 to R42): records are granted, upgraded and recalled;
entries leave or change their state; replies are placed; and the grant counter and the counts of grants and recalls issued
rise. -/
structure WalkEffect (s t : State) : Prop where
  timeBase : t.timeBase = s.timeBase
  sweep : t.sweep = s.sweep
  churn : t.churn = s.churn
  reportQueue : t.reportQueue = s.reportQueue
  management : t.management = s.management
  mgmtLink : t.mgmtLink = s.mgmtLink
  pending : t.pending = s.pending
  sessions : ∀ a, SameButIssued (s.session a) (t.session a)
  links : ∀ a, SameButReplies (s.link a) (t.link a)
  leases : ∀ r ∈ s.grantTable.records, ∃ q ∈ t.grantTable.records, SameLease r q
  counter : s.grantTable.counter ≤ t.grantTable.counter
  entries : t.waitList.length ≤ s.waitList.length

/-- `Walk s place t`: a walk that has reached `place` in the list of `s` ends in `t`. It visits the entries in arrival order
and ends after the last one still in the list (R41). -/
inductive Walk : State → Nat → State → Prop
  | ended (s : State) (place : Nat) : s.waitList.length ≤ place → Walk s place s
  | visited (s : State) (place : Nat) (e : WaitEntry) (t : State) : s.waitList[place]? = some e →
      Walk (s.visitEntry place e).1 (s.visitEntry place e).2 t → Walk s place t

/-! ## The command that takes a frame of each kind (the rows of the table) -/

def answerableCommand (a : AgentId) : AnswerableKind → Instr
  | .join => .join a
  | .acquire => .acquire a
  | .convert => .convert a
  | .query => .query a
  | .leave => .leave a

def closingCommand (a : AgentId) : ClosingKind → Instr
  | .release => .release a
  | .downgrade => .downgrade a
  | .cancel => .cancel a
  | .keepalive => .keepalive a

def managementCommand : CommandKind → Instr
  | .configure => .configure
  | .setParam => .setParam
  | .admitAgent => .admitAgent
  | .evict => .evict
  | .pause => .pause
  | .resume => .resume
  | .sweepStart => .sweepStart
  | .sweepAbort => .sweepAbort
  | .queryExtent => .queryExtent
  | .queryAgent => .queryAgent
  | .ackChurn => .ackChurn
  | .reportResume => .reportResume
  | .readCounters => .readCounters
  | .resetDirectory => .resetDirectory
  | .reportAck => .reportAck

/-! ## When a frame is taken -/

/-- LI-An may take `f`, of kind `k`, from the head of its answerable buffer, and `rest` stands behind it (R140). -/
abbrev AnswerableHead (s : State) (a : AgentId) (k : AnswerableKind) (f : Frame AnswerableKind)
    (rest : List (Frame AnswerableKind)) : Prop :=
  (s.link a).answerable.frames = f :: rest ∧ f.kind = k ∧ (s.link a).linkState = .run ∧
  (s.link a).replies.reserved + (s.link a).replies.filled.length < Config.agentReplySlots ∧
  s.management.state ≠ .paused

/-- LI-An may take `f`, of kind `k`, from the head of its closing buffer (R141). -/
abbrev ClosingHead (s : State) (a : AgentId) (k : ClosingKind) (f : Frame ClosingKind)
    (rest : List (Frame ClosingKind)) : Prop :=
  (s.link a).closing.frames = f :: rest ∧ f.kind = k ∧ (s.link a).linkState = .run

/-- LI-M may take `f`, of kind `k`, from the head of its command buffer (R157). -/
abbrev CommandHead (s : State) (k : CommandKind) (f : Frame CommandKind) (rest : List (Frame CommandKind)) : Prop :=
  s.mgmtLink.command.frames = f :: rest ∧ f.kind = k ∧ s.mgmtLink.linkState = .run ∧
  s.mgmtLink.replies.reserved + s.mgmtLink.replies.filled.length < Config.mgmtReplySlots

/-- The session state is ACTIVE. -/
def isActive : SessionState → Bool
  | .active _ => true
  | _ => false

/-- A frame sent under `epoch` passes the session checks of R30 and R31. -/
abbrev InSession (s : State) (a : AgentId) (epoch : Nat) : Prop :=
  s.management.state ≠ .unconfigured ∧ isActive (s.session a).state = true ∧ epoch = (s.session a).epoch

/-! ## What a taking leaves -/

/-- An ingress class once its head has left and `rest` stands in the buffer: its credit is to return (R137). -/
def leftBuffer {κ : Type} (g : Ingress κ) (rest : List (Frame κ)) : Ingress κ :=
  { frames := rest, outstanding := g.outstanding, toReturn := g.toReturn + 1 }

/-- Agent `a`'s session record with its lease renewed (R87). -/
def renewed (s : State) (a : AgentId) : Session :=
  { s.session a with state := .active (s.timeBase + s.params.leasePeriod) }

/-- A link that has taken its answerable head and placed the reply `x` in the slot reserved for it (R29, R140). -/
def answeredLink (l : AgentLink) (rest : List (Frame AnswerableKind)) (x : TaggedReply) : AgentLink :=
  { l with answerable := leftBuffer l.answerable rest, replies := { l.replies with filled := l.replies.filled ++ [x] } }

/-- A link that has taken its answerable head, whose slot stays RESERVED (R29, R140). -/
def heldLink (l : AgentLink) (rest : List (Frame AnswerableKind)) : AgentLink :=
  { l with answerable := leftBuffer l.answerable rest, replies := { l.replies with reserved := l.replies.reserved + 1 } }

/-- `s` once an answerable frame has been taken in session and answered with `x`, and nothing else. -/
def answered (s : State) (a : AgentId) (rest : List (Frame AnswerableKind)) (x : TaggedReply) : State :=
  { s with
    sessions := s.sessions.set a (renewed s a)
    agentLinks := s.agentLinks.set a (answeredLink (s.link a) rest x) }

/-- `s` once an answerable frame that renews nothing has been taken and answered with `x`. -/
def turnedAway (s : State) (a : AgentId) (rest : List (Frame AnswerableKind)) (x : TaggedReply) : State :=
  { s with agentLinks := s.agentLinks.set a (answeredLink (s.link a) rest x) }

/-- `s` once an answerable frame has been taken in session and still holds its slot. -/
def held (s : State) (a : AgentId) (rest : List (Frame AnswerableKind)) : State :=
  { s with
    sessions := s.sessions.set a (renewed s a)
    agentLinks := s.agentLinks.set a (heldLink (s.link a) rest) }

/-- `s` once a closing frame has been taken in session, and nothing else (R141, R87). -/
def closed (s : State) (a : AgentId) (rest : List (Frame ClosingKind)) : State :=
  { s with
    sessions := s.sessions.set a (renewed s a)
    agentLinks := s.agentLinks.set a { s.link a with closing := leftBuffer (s.link a).closing rest } }

/-- `s` once a closing frame that renews nothing has been taken, leaving agent `a`'s counters as `counters`. -/
def closedCounting (s : State) (a : AgentId) (rest : List (Frame ClosingKind)) (counters : AgentCounters) : State :=
  { s with
    sessions := s.sessions.set a { s.session a with counters := counters }
    agentLinks := s.agentLinks.set a { s.link a with closing := leftBuffer (s.link a).closing rest } }

/-- LI-M once a command has been taken and the REPLY `x` placed in the slot reserved for it (R157). -/
def commandedLink (l : MgmtLink) (rest : List (Frame CommandKind)) (x : MgmtReply) : MgmtLink :=
  { l with
    command := leftBuffer l.command rest
    replies := { l.replies with filled := l.replies.filled ++ [x] }
    counters := { l.counters with commandsTaken := countUp l.counters.commandsTaken } }

/-- `s` once a command has been taken and answered with `x`, and nothing else. -/
def commanded (s : State) (rest : List (Frame CommandKind)) (x : MgmtReply) : State :=
  { s with mgmtLink := commandedLink s.mgmtLink rest x }

/-- The REPLY with status OK and an empty result (R159). -/
def okReply (tag : Nat) : MgmtReply := { tag := tag, status := .ok, result := .empty }

/-- The REPLY with a refusal status (R159). -/
def refusedReply (tag : Nat) (status : Status) : MgmtReply := { tag := tag, status := status, result := .empty }

/-! ## What a removal, a downgrade, a session's end and a fencing leave -/

/-- The sweep and the Report Queue once `n` pending records have left the pending set as `how` says and `left` are the
records in the table: the tally rises by `n`, and a sweep in DRAINING that waits for none of `left` completes (R110,
R113). -/
def resolvedSweep (s : State) (how : Resolution) (n : Nat) (left : List GrantRecord) : Option Sweep × ReportQueue :=
  match s.sweep with
  | none => (none, s.reportQueue)
  | some w =>
    let tallies := (fun t : Tallies => t.addResolved how)^[n] w.tallies
    if 0 < n ∧ w.phase = .draining ∧ (left.all fun r => !r.sweepPending) = true then
      (none, s.reportQueue.append (.sweepDone w.id .complete tallies))
    else (some { w with tallies := tallies }, s.reportQueue)

/-- The records of every agent but `a`. -/
def recordsLeft (s : State) (a : AgentId) : List GrantRecord := s.grantTable.records.filter fun r => r.holder ≠ a

/-- How many of agent `a`'s records an active sweep waits for. -/
def pendingOf (s : State) (a : AgentId) : Nat := (s.recordsOf a).countP fun r => r.sweepPending

/-- `s` after steps 1 to 3 of R83 and R85: agent `a`'s entries are answered SESSION_ENDED in arrival order, its records
and its waiting RECALL messages are gone. -/
def sessionOver (s : State) (a : AgentId) : State :=
  let ended := resolvedSweep s .byRelease (pendingOf s a) (recordsLeft s a)
  let l := s.link a
  { s with
    grantTable := { s.grantTable with records := recordsLeft s a }
    waitList := s.waitList.filter fun e => e.agent ≠ a
    sendLists := s.sendLists.set a []
    sweep := ended.1
    reportQueue := ended.2
    agentLinks := s.agentLinks.set a { l with replies :=
      { reserved := l.replies.reserved - (s.entriesOf a).length
        filled := l.replies.filled ++
          (s.entriesOf a).map fun e => { tag := e.tag, reply := .refused .sessionEnded } } } }

/-- `s` after steps 1 to 9 of R93: agent `a` is FENCED for `cause`. -/
def fenced (s : State) (a : AgentId) (cause : FenceCause) : State :=
  let ended := resolvedSweep s .byFence (pendingOf s a) (recordsLeft s a)
  let x := s.session a
  let l := s.link a
  { s with
    grantTable := { s.grantTable with records := recordsLeft s a }
    waitList := s.waitList.filter fun e => e.agent ≠ a
    sendLists := s.sendLists.set a []
    sessions := s.sessions.set a
      { x with state := .fenced, fenceCause := cause,
               counters := { x.counters with fencings := countUp x.counters.fencings } }
    sweep := ended.1
    churn := { s.churn with members := s.churn.members.set a { window := [], alarm := false } }
    reportQueue := ended.2.append (.fenced a cause x.epoch (s.recordsOf a).length (s.entriesOf a).length)
    agentLinks := s.agentLinks.set a
      { l with
        answerable := { l.answerable with
          frames := [], toReturn := l.answerable.toReturn + l.answerable.frames.length }
        closing := { l.closing with frames := [], toReturn := l.closing.toReturn + l.closing.frames.length }
        replies := { reserved := 0, filled := [] }
        control := addNotice l.control (.fenced cause) x.epoch } }

/-- A send list once the RECALL of `r` has left it, if `gone` (R64). -/
def withdrawn (s : State) (r : GrantRecord) (gone : Bool) : PerAgent (List RecallMessage) :=
  if gone then s.sendLists.set r.holder ((s.sendList r.holder).filter fun m => m.token ≠ r.token) else s.sendLists

/-- `s` after steps 1 to 3 of R21 for a RELEASE of `r`. -/
def released (s : State) (r : GrantRecord) : State :=
  let left := s.grantTable.records.filter fun q => q.slot ≠ r.slot
  let ended := resolvedSweep s .byRelease (if r.sweepPending then 1 else 0) left
  { s with
    grantTable := { s.grantTable with records := left }
    sendLists := withdrawn s r r.recallRecord.isSome
    sweep := ended.1
    reportQueue := ended.2 }

/-- The recall of `r` wants DOWNGRADE. -/
def wantsDowngrade (r : GrantRecord) : Bool := r.recallRecord.any fun rc => rc.wanted = .downgrade

/-- A downgrade of `r` takes it out of the pending set: it is pending and the sweep is a DEMOTE (R110). -/
def leavesDemote (s : State) (r : GrantRecord) : Bool := r.sweepPending && s.sweep.any fun w => w.kind = .demote

/-- Record `r` after a downgrade (R23). -/
def downgradedRecord (s : State) (r : GrantRecord) : GrantRecord :=
  { r with
    mode := .shared
    recallRecord := if wantsDowngrade r then none else r.recallRecord
    sweepPending := r.sweepPending && !leavesDemote s r }

/-- `s` after the downgrade of `r`, the Sweep Engine told and the Churn Monitor not yet (R23, R120). -/
def downgraded (s : State) (r : GrantRecord) : State :=
  let left := s.grantTable.records.map fun q => if q.slot = r.slot then downgradedRecord s r else q
  let ended := resolvedSweep s .byDowngrade (if leavesDemote s r then 1 else 0) left
  { s with
    grantTable := { s.grantTable with records := left }
    sendLists := withdrawn s r (wantsDowngrade r)
    sweep := ended.1
    reportQueue := ended.2 }

/-- Agent `a`'s window with `o` appended and, past W, its oldest outcome gone (R121). -/
def windowWith (s : State) (a : AgentId) (o : ChurnOutcome) : List ChurnOutcome :=
  let w := (s.member a).window ++ [o]
  if w.length ≤ (s.settings a).window then w else w.tail

/-- Appending `o` raises agent `a`'s alarm (R122). -/
def raises (s : State) (a : AgentId) (o : ChurnOutcome) : Bool :=
  (s.settings a).threshold ≤ (windowWith s a o).count .recalled && !(s.member a).alarm

/-- `s` once the Churn Monitor has been handed outcome `o` of agent `a` (R120 to R122). -/
def churned (s : State) (a : AgentId) (o : ChurnOutcome) : State :=
  if (s.settings a).enable = false then s
  else
    let w := windowWith s a o
    { s with
      churn := { s.churn with members := s.churn.members.set a { window := w, alarm := (s.member a).alarm || raises s a o } }
      reportQueue :=
        if raises s a o then s.reportQueue.append (.churnAlarm a (s.session a).group (w.count .recalled) w.length)
        else s.reportQueue
      agentLinks :=
        if raises s a o && (s.settings a).notify then
          s.agentLinks.set a
            { s.link a with control := addNotice (s.link a).control .churnHigh (s.session a).epoch }
        else s.agentLinks }

/-- Every record, entry and extent rule the tables rest on: the lease law, valid extents, and nothing in UNCONFIGURED. -/
def TableLaw (s : State) : Prop := LeaseLaw s ∧ ExtentLaw s ∧ UnconfiguredLaw s

/-! ## Plain readings of the spec's words -/

/-- Two extents share at least one block (R4). -/
def ShareBlock (x y : Extent) : Prop :=
  ∃ n, (x.start ≤ n ∧ n < x.start + x.length) ∧ (y.start ≤ n ∧ n < y.start + y.length)

/-- `n` is the lowest-numbered free slot (R11). -/
abbrev LowestFree (s : State) (n : Nat) : Prop :=
  n < Config.slotCount ∧ (∀ r ∈ s.grantTable.records, r.slot ≠ n) ∧
    ∀ m < n, ∃ r ∈ s.grantTable.records, r.slot = m

/-- Every token of `t` is one `s` already held, on a record with the same fixed fields (R7), or was issued since (R15). -/
def TokensGrow (s t : State) : Prop :=
  s.grantTable.counter ≤ t.grantTable.counter ∧
  ∀ r ∈ t.grantTable.records,
    (∃ q ∈ s.grantTable.records, q.token = r.token ∧ q.slot = r.slot ∧ q.holder = r.holder ∧ q.epoch = r.epoch ∧
      q.extent = r.extent) ∨
    (s.grantTable.counter < r.token ∧ r.token ≤ t.grantTable.counter)

/-! ## The state with one thing replaced or added -/

def withLink (s : State) (a : AgentId) (l : AgentLink) : State := { s with agentLinks := s.agentLinks.set a l }

def withSession (s : State) (a : AgentId) (x : Session) : State := { s with sessions := s.sessions.set a x }

/-- `s` with a report appended (R173). -/
def logged (s : State) (r : Report) : State := { s with reportQueue := s.reportQueue.append r }

/-- A link cut off by an error or by signal loss (R131, R147). -/
def cutOff (l : AgentLink) (state : LinkState) : AgentLink := { l with linkState := state, transmitter := .idle }

/-- LI-M cut off by an error or by signal loss (R131, R147). -/
def mgmtCutOff (l : MgmtLink) (state : LinkState) : MgmtLink := { l with linkState := state, transmitter := .idle }

/-- A reply filling a RESERVED slot (R145). -/
def filledWith {ρ : Type} (r : ReplyArea ρ) (x : ρ) : ReplyArea ρ :=
  { reserved := r.reserved - 1, filled := r.filled ++ [x] }

/-- `s` with a reply placed for agent `a` (R145). -/
def replied (s : State) (a : AgentId) (x : TaggedReply) : State :=
  withLink s a { s.link a with replies := filledWith (s.link a).replies x }

/-- `s` once the command at the head of LI-M's buffer has been taken and before its REPLY is placed (R157). -/
def commandTaken (s : State) (rest : List (Frame CommandKind)) : State :=
  { s with mgmtLink :=
      { s.mgmtLink with
        command := leftBuffer s.mgmtLink.command rest
        replies := { s.mgmtLink.replies with reserved := s.mgmtLink.replies.reserved + 1 }
        counters := { s.mgmtLink.counters with commandsTaken := countUp s.mgmtLink.counters.commandsTaken } } }

/-- `s` with a REPLY placed (R157). -/
def mgmtReplied (s : State) (x : MgmtReply) : State :=
  { s with mgmtLink := { s.mgmtLink with replies := filledWith s.mgmtLink.replies x } }

/-! ## What a request asks for (section 9.4) -/

/-- The body is a good JOIN body, asking for the recall window `w` (R180). -/
abbrev JoinAsks (f : Frame AnswerableKind) (w : Nat) : Prop :=
  f.tag ≤ Config.maxTag ∧ f.body.length = 1 ∧ w = field f.body 0 1 ∧ 1 ≤ w ∧ w ≤ Config.maxRecallWindow

/-- The body is a good ACQUIRE body, asking for extent `x`, mode `m` and max-wait `w` (R180). -/
abbrev AcquireAsks (f : Frame AnswerableKind) (x : Extent) (m : Mode) (w : Nat) : Prop :=
  f.body.length = 12 ∧ x = { start := field f.body 0 6, length := field f.body 6 3 } ∧
  Mode.ofCode (field f.body 9 1) = some m ∧ w = field f.body 10 2

/-- The body is a good CONVERT body, citing `token` and asking for mode `m` and max-wait `w` (R180). -/
abbrev ConvertAsks (f : Frame AnswerableKind) (token : Nat) (m : Mode) (w : Nat) : Prop :=
  f.body.length = 11 ∧ token = field f.body 0 8 ∧ Mode.ofCode (field f.body 8 1) = some m ∧ w = field f.body 9 2

/-- The tag passes R32: 0 to 31, and not that of an entry of the agent. -/
abbrev TagFree (s : State) (a : AgentId) (tag : Nat) : Prop :=
  tag ≤ Config.maxTag ∧ ∀ e ∈ s.waitList, e.agent = a → e.tag ≠ tag

/-- No record and no entry of agent `a` overlaps the extent (R6). -/
abbrev NoSelfOverlap (s : State) (a : AgentId) (x : Extent) : Prop :=
  (∀ r ∈ s.grantTable.records, r.holder = a → x.overlaps r.extent = false) ∧
  ∀ e ∈ s.waitList, e.agent = a → x.overlaps e.extent = false

/-- Agent `a`'s token names the record `r` in its current session (R20). -/
abbrev Cites (s : State) (a : AgentId) (token : Nat) (r : GrantRecord) : Prop :=
  r ∈ s.grantTable.records ∧ r.token = token ∧ r.holder = a ∧ r.epoch = (s.session a).epoch

/-- An ACQUIRE that has passed tests 1 to 3 of R37. -/
abbrev AcquireReady (s : State) (a : AgentId) (f : Frame AnswerableKind) (rest : List (Frame AnswerableKind))
    (x : Extent) (m : Mode) (w : Nat) : Prop :=
  AnswerableHead s a .acquire f rest ∧ InSession s a f.epoch ∧ AcquireAsks f x m w ∧ TagFree s a f.tag ∧
  x.valid s.params.volume = true ∧ NoSelfOverlap s a x

/-- A CONVERT of the record `r` that has passed the checks of R32 and the tests of R45. -/
abbrev ConvertReady (s : State) (a : AgentId) (f : Frame AnswerableKind) (rest : List (Frame AnswerableKind))
    (r : GrantRecord) (m : Mode) (w : Nat) : Prop :=
  AnswerableHead s a .convert f rest ∧ InSession s a f.epoch ∧ ConvertAsks f r.token m w ∧ TagFree s a f.tag ∧
  Cites s a r.token r ∧ m ≠ r.mode ∧ ∀ e ∈ s.waitList, e.agent = a → e.kind ≠ .convert r.slot

/-- The claim of an ACQUIRE (section 1.2). -/
def acquiring (a : AgentId) (x : Extent) (m : Mode) : Claim := { agent := a, kind := .acquire, extent := x, mode := m }

/-- The claim of a CONVERT to EXCLUSIVE of `r` (R5). -/
def upgrading (a : AgentId) (r : GrantRecord) : Claim :=
  { agent := a, kind := .convert r.slot, extent := r.extent, mode := .exclusive }

/-- A reply is REFUSED, whatever its code (R55, R145). -/
def isRefused : AgentReply → Bool
  | .refused _ => true
  | _ => false

end Sys2Proof.Safety
end

