-- ==== Sys2Proof/Certificates/Slice0/Obligations.lean ====
section
/-!
DEFINITION. The statements for the provers. They come from the numbered rules of spec/; OBLIGATIONS.json lists them. The
vocabulary they share (heads of buffers, states after a taking, laws) is that of Sys2Proof/Safety.lean.
-/

open Sys2Proof Sys2Proof.Machine Sys2Proof.Safety

/-! ## The machine -/

/-- A step carries out the command at the front of the queue, on the state with the queue's rest; an empty queue idles; and
no command stops the part or touches the queue (R1, and the model's interface, assumption 1). -/
def Obligations.StepRunsFrontCommand : Prop :=
  (∀ (c : Instr) (rest : List Instr) (s : State), s.pending = c :: rest →
    step s = exec c { s with pending := rest }) ∧
  (∀ s : State, s.pending = [] → step s = .next s) ∧
  ∀ (c : Instr) (s : State), ∃ t, exec c s = .next t ∧ t.pending = s.pending

/-- What power-on leaves (R2, R27, R53, R75, R101, R117, R118, R128, R151, R173, R177 and the table of section 8.4). That no
command waits is the model's choice: the queue of commands is the model's own (assumption 1). -/
def Obligations.PowerOnValues : Prop :=
  let s := State.reset
  (s.timeBase = 0 ∧ s.grantTable.records = [] ∧ s.grantTable.counter = 0 ∧ s.waitList = [] ∧ s.sweep = none ∧
    s.pending = []) ∧
  (∀ a : AgentId, s.sendList a = [] ∧ s.member a = { window := [], alarm := false } ∧
    s.session a = { state := .offline, epoch := 0, admitFlag := false, recallWindow := 0, group := 0,
                    fenceCause := .none, counters := ⟨0, 0, 0, 0, 0, 0, 0⟩ } ∧
    s.link a = { linkState := .down, answerable := ⟨[], 0, 0⟩, closing := ⟨[], 0, 0⟩, recallCredit := 0,
                 replies := ⟨0, []⟩, control := [], transmitter := .idle, turn := .reply }) ∧
  (∀ g : GroupId, s.churn.groups.get g = { enable := true, window := 16, threshold := 8, notify := false }) ∧
  s.reportQueue = { reports := [], marker := false, suspended := false, lost := 0 } ∧
  s.management = { state := .unconfigured, params :=
    { volume := 0, leasePeriod := 2000, recallTimeout := 100, attemptLimit := 4, reportWindow := 0 } } ∧
  s.mgmtLink = { linkState := .down, command := ⟨[], 0, 0⟩, reportCredit := 0, replies := ⟨0, []⟩, syncAck := none,
                 transmitter := .idle, turn := .reply, counters := ⟨0, 0, 0, 0⟩ }

/-- POWER_ON puts every block at its power-on value and leaves the queue, which is not the part's (assumption 1). A
millisecond adds 1 to the count, which stops at 2^64 − 1 (R2). While a deadline that stands is due, the count does not go on:
that deadline passes first, in a happening of its own (the model's reading of R2, assumption 3). -/
def Obligations.PowerOnAndTick : Prop :=
  ∀ s : State,
    let due := (∃ e ∈ s.waitList, e.deadline = s.timeBase) ∨
      (∃ r ∈ s.grantTable.records, ∃ rc, r.recallRecord = some rc ∧ rc.deadline = s.timeBase) ∨
      ∃ a : AgentId, (s.session a).state = .active s.timeBase
    exec .powerOn s = .next { State.reset with pending := s.pending } ∧
    (¬due → s.timeBase < 2 ^ 64 - 1 → exec .millisecondTick s = .next { s with timeBase := s.timeBase + 1 }) ∧
    (¬due → 2 ^ 64 - 1 ≤ s.timeBase → exec .millisecondTick s = .next s) ∧
    (due → exec .millisecondTick s = .next s)

/-- Every law the other statements keep holds at power-on. -/
def Obligations.LawsHoldAtReset : Prop :=
  let s := State.reset
  TimeLaw s ∧ DeadlineLaw s ∧ ReportQueueLaw s ∧ ControlLaneLaw s ∧ IngressLaw s ∧ EgressLaw s ∧ ReplySlotLaw s ∧
  ChurnLaw s ∧ ParamLaw s ∧ TableLaw s ∧ WaitListLaw s ∧ SessionLaw s ∧ EpochLaw s ∧ RecallLaw s ∧ SendListLaw s ∧
  SweepLaw s ∧ RecallingEntryLaw s ∧ NoneGrantable s

/-- A command whose happening cannot take place changes nothing (the model's choice, assumption 2): a taking, a deadline, a
sweep step, signal found or lost, a send. A send with nothing to send is in AgentLinkSends and MgmtLinkSends, a tick while a
deadline is due in PowerOnAndTick. -/
def Obligations.NotEnabledChangesNothing : Prop :=
  ∀ (s : State) (a : AgentId),
    (∀ k, ((s.link a).linkState ≠ .run ∨ (s.link a).answerable.frames.head?.map Frame.kind ≠ some k ∨
        s.management.state = .paused ∨
        Config.agentReplySlots ≤ (s.link a).replies.reserved + (s.link a).replies.filled.length) →
      exec (answerableCommand a k) s = .next s) ∧
    (∀ k, ((s.link a).linkState ≠ .run ∨ (s.link a).closing.frames.head?.map Frame.kind ≠ some k) →
      exec (closingCommand a k) s = .next s) ∧
    (∀ k, (s.mgmtLink.linkState ≠ .run ∨ s.mgmtLink.command.frames.head?.map Frame.kind ≠ some k ∨
        k ≠ .reportAck ∧ Config.mgmtReplySlots ≤ s.mgmtLink.replies.reserved + s.mgmtLink.replies.filled.length) →
      exec (managementCommand k) s = .next s) ∧
    (∀ tag, (∀ e ∈ s.waitList, e.agent = a → e.tag = tag → e.deadline ≠ s.timeBase) →
      exec (.waitDeadline a tag) s = .next s) ∧
    (∀ slot, (∀ r ∈ s.grantTable.records, r.slot = slot → ∀ rc, r.recallRecord = some rc →
        rc.deadline ≠ s.timeBase) → exec (.recallDeadline slot) s = .next s) ∧
    ((s.session a).state ≠ .active s.timeBase → exec (.sessionLeaseExpiry a) s = .next s) ∧
    ((∀ w, s.sweep = some w → w.phase = .draining) → exec .sweepStep s = .next s) ∧
    ((s.link a).linkState ≠ .down → exec (.signalFound (.agent a)) s = .next s) ∧
    (s.mgmtLink.linkState ≠ .down → exec (.signalFound .mgmt) s = .next s) ∧
    ((s.link a).linkState = .down → exec (.signalLost (.agent a)) s = .next s) ∧
    (s.mgmtLink.linkState = .down → exec (.signalLost .mgmt) s = .next s) ∧
    ((s.link a).linkState ≠ .run ∨ (s.link a).transmitter ≠ .idle → exec (.agentLinkSend a) s = .next s) ∧
    (s.mgmtLink.linkState ≠ .run ∨ s.mgmtLink.transmitter ≠ .idle → exec .mgmtLinkSend s = .next s)

/-! ## What every step keeps -/

/-- The Time Base stops at its maximum and passes no deadline that stands (for which see assumption 3); the Report Queue holds
at most 64 reports and a marker only while SUSPENDED; control lanes stay within 16 NOTICE frames and one SYNC_ACK; at most
128 entries wait, under distinct tags 0 to 31 of each agent (R2, R34, R143, R144, R173, R174). -/
def Obligations.CountsStayBounded : Prop :=
  ∀ s t : State, step s = .next t →
    (TimeLaw s → TimeLaw t) ∧ (DeadlineLaw s → DeadlineLaw t) ∧ (ReportQueueLaw s → ReportQueueLaw t) ∧
    (ControlLaneLaw s → ControlLaneLaw t) ∧ (WaitListLaw s → WaitListLaw t)

/-- Outstanding credit, frames held and credit to return go on adding up to the capacity of each class; recall credit stays
within the recall window and report credit within the report window (R137, R139, R153, R155, R177). -/
def Obligations.CreditStaysAccounted : Prop :=
  ∀ s t : State, step s = .next t → (IngressLaw s → IngressLaw t) ∧ (EgressLaw s → EgressLaw t)

/-- Every waiting request keeps exactly one RESERVED slot, and no area holds more than its slots (R29, R34, R157). A reply area
is kept as a count and a list (assumption 5). -/
def Obligations.ReplySlotsStayAccounted : Prop :=
  ∀ s t : State, ReplySlotLaw s → step s = .next t → ReplySlotLaw t

/-- The parameters stay in their ranges, C stays within W and windows within W, and before CONFIGURE there is no session,
record, entry, RECALL or sweep (R118, R121, R160, section 8.4). -/
def Obligations.ConfigurationStaysSound : Prop :=
  ∀ s t : State, step s = .next t →
    (ParamLaw s → ParamLaw t) ∧ (ChurnLaw s → ChurnLaw t) ∧ (UnconfiguredLaw s → UnconfiguredLaw t)

/-- The index stays ordered, slots and tokens stay distinct, and no token passes the grant counter (R11, R13, R15, R16). -/
def Obligations.IndexStaysOrdered : Prop :=
  ∀ s t : State, IndexLaw s → step s = .next t → IndexLaw t

/-- No two leases ever conflict or self-overlap, the claims of one agent stay disjoint, a waiting CONVERT's subject stays
its agent's SHARED, HELD record, and every extent stays valid (R3, R6, R10, R33, R47). -/
def Obligations.LeasesNeverConflict : Prop :=
  ∀ s t : State, TableLaw s → step s = .next t → TableLaw t

/-- Records, entries and waiting RECALL messages belong to ACTIVE sessions and carry their epochs; epochs stay in range and
an ACTIVE session's admit flag stays set (R25, R34, R74, R77, R79, R80). -/
def Obligations.SessionsOwnTheirTables : Prop :=
  ∀ s t : State, step s = .next t →
    (SessionLaw s → SessionLaw t) ∧ (UnconfiguredLaw s → EpochLaw s → EpochLaw t)

/-- A recall's attempts stay in 1 to 8 and it wants DOWNGRADE only on an EXCLUSIVE record; every waiting RECALL message stays
the one its record's recall calls for, at most one for each record (R8, R57, R62, R67). -/
def Obligations.RecallsAndMessagesStaySound : Prop :=
  ∀ s t : State, step s = .next t →
    (IndexLaw s → ParamLaw s → RecallLaw s → RecallLaw t) ∧ (TableLaw s → SendListLaw s → SendListLaw t)

/-- The pending set stays a set of RECALLING records of an active sweep, and a sweep in DRAINING always waits for some
record: otherwise it has completed (R102, R110, R113). -/
def Obligations.PendingSetStaysSound : Prop :=
  ∀ s t : State, IndexLaw s → SweepLaw s → step s = .next t → SweepLaw t

/-- A RECALLING entry has no earlier conflict, and the recalls it needs stand (R41). -/
def Obligations.RecallingEntriesHaveTheirRecalls : Prop :=
  ∀ s t : State, TableLaw s → RecallingEntryLaw s → step s = .next t → RecallingEntryLaw t

/-- No entry is left waiting that could be granted (R36, R40, R41). -/
def Obligations.NothingGrantableWaits : Prop :=
  ∀ s t : State, TableLaw s → NoneGrantable s → step s = .next t → NoneGrantable t

/-- Tokens only grow: the grant counter falls only at POWER_ON, a record keeps its token and fixed fields, and any other
token is newer than every token issued before (R7, R15). -/
def Obligations.TokensOnlyGrow : Prop :=
  ∀ (c : Instr) (s t : State), c ≠ .powerOn → exec c s = .next t → TokensGrow s t

/-- A walk visits the entries in arrival order and changes nothing but what R40 to R42 give: leases are kept, none is removed,
and entries only leave. What a visit decides, at any place of the list: behind an entry that conflicts, an entry stays QUEUED;
a barred one is QUEUED, but a RECALLING one stays; one that records stand against becomes RECALLING with its recalls asked,
but a RECALLING one stays; one that lacks only room is QUEUED; and a grantable one leaves the list, granted as at admission
(R18, R19, R41, R42). Of a RECALLING entry behind one that conflicts R41 says that it does not arise. -/
def Obligations.WalkDecidesAndChangesOnlyItsOwn : Prop :=
  (∀ s : State, WalkEffect s s.reevaluate ∧ Walk s 0 s.reevaluate) ∧
  ∀ (s : State) (place : Nat) (e : WaitEntry), s.waitList[place]? = some e →
    let obstacle := s.obstacle (s.waitList.take place) e.claim
    let a := e.agent
    let token := s.grantTable.counter + 1
    let y := s.session a
    let granting (reply : AgentReply) (records : List GrantRecord) : State :=
      { withSession (replied s a { tag := e.tag, reply := reply }) a
          { y with counters := { y.counters with grantsIssued := countUp y.counters.grantsIssued } } with
        waitList := s.waitList.eraseIdx place
        grantTable := { records := records, counter := token } }
    let becoming (state : EntryState) : State := { s with waitList := s.waitList.set place { e with state := state } }
    let staying (t : State) : Prop := s.visitEntry place e = (t, place + 1)
    (obstacle = some .earlier → e.state ≠ .recalling → staying (becoming (.queued .earlier))) ∧
    (obstacle = some .barrier →
      (e.state ≠ .recalling → staying (becoming (.queued .barrier))) ∧ (e.state = .recalling → staying s)) ∧
    (obstacle = some .records →
      (e.state ≠ .recalling → staying ((becoming .recalling).recallConflicts e.claim)) ∧
      (e.state = .recalling → staying s)) ∧
    (obstacle = some .room → staying (becoming (.queued .noRecord))) ∧
    (obstacle = none →
      (e.kind = .acquire → ∀ slot, LowestFree s slot → s.visitEntry place e =
        (granting (.granted token e.extent e.mode)
          (insertRecord
            { slot := slot, token := token, holder := a, epoch := e.epoch, extent := e.extent, mode := e.mode,
              recallRecord := none, sweepPending := false } s.grantTable.records), place)) ∧
      (∀ r, IndexLaw s → r ∈ s.grantTable.records → e.kind = .convert r.slot → s.visitEntry place e =
        (granting (.converted token .exclusive)
          (s.grantTable.records.map fun q => if q = r then { r with mode := .exclusive, token := token } else q),
          place)))

/-! ## The agent links -/

/-- Signal found and signal lost move a link, stop its traffic, keep its contents and are reported; at the end of a
transmission the transmitter becomes IDLE, and nothing else changes (R130, R131, R147, R158). -/
def Obligations.SignalMovesLinks : Prop :=
  ∀ (s : State) (a : AgentId),
    ((s.link a).linkState = .down → exec (.signalFound (.agent a)) s = .next
      (logged (withLink s a { s.link a with linkState := .waitSync }) (.linkState (.agent a) .waitSync .signalFound))) ∧
    ((s.link a).linkState ≠ .down → exec (.signalLost (.agent a)) s = .next
      (logged (withLink s a (cutOff (s.link a) .down)) (.linkState (.agent a) .down .signalLost))) ∧
    (s.mgmtLink.linkState = .down → exec (.signalFound .mgmt) s = .next
      (logged { s with mgmtLink := { s.mgmtLink with linkState := .waitSync } }
        (.linkState .mgmt .waitSync .signalFound))) ∧
    (s.mgmtLink.linkState ≠ .down → exec (.signalLost .mgmt) s = .next
      (logged { s with mgmtLink := mgmtCutOff s.mgmtLink .down } (.linkState .mgmt .down .signalLost))) ∧
    exec (.endOfTransmission (.agent a)) s = .next (withLink s a { s.link a with transmitter := .idle }) ∧
    exec (.endOfTransmission .mgmt) s = .next { s with mgmtLink := { s.mgmtLink with transmitter := .idle } }

/-- A well-formed frame with credit joins the tail of its class's buffer, uses one unit of the class's credit and brings
its recall credit, capped at the recall window; nothing else changes (checks 4 to 7 of R132, R137, R139). -/
def Obligations.FrameJoinsItsBuffer : Prop :=
  ∀ (s : State) (a : AgentId) (bytes : List Byte) (f : RawFrame),
    (s.link a).linkState = .run → checkFrame bytes = .wellFormed f →
    (∀ k, agentClass f.kind = .answerable k → 0 < (s.link a).answerable.outstanding →
      exec (.frameArrival a bytes) s = .next (withLink s a
        { s.link a with
          answerable :=
            { frames := (s.link a).answerable.frames ++ [{ kind := k, tag := f.tag, epoch := f.epoch, body := f.body }]
              outstanding := (s.link a).answerable.outstanding - 1
              toReturn := (s.link a).answerable.toReturn }
          recallCredit := min ((s.link a).recallCredit + f.creditX) (s.session a).recallWindow })) ∧
    (∀ k, agentClass f.kind = .closing k → 0 < (s.link a).closing.outstanding →
      exec (.frameArrival a bytes) s = .next (withLink s a
        { s.link a with
          closing :=
            { frames := (s.link a).closing.frames ++ [{ kind := k, tag := f.tag, epoch := f.epoch, body := f.body }]
              outstanding := (s.link a).closing.outstanding - 1
              toReturn := (s.link a).closing.toReturn }
          recallCredit := min ((s.link a).recallCredit + f.creditX) (s.session a).recallWindow }))

/-- What a bad frame does in RUN: a CRC failure is counted and, like a framing fault or a credit overrun, sends the link
to WAIT_SYNC; a frame of unknown kind uses closing credit and is a protocol error, and so, without credit, is a SYNC with a
bad body (R130, R134, R135, R136). -/
def Obligations.BadFramesInRun : Prop :=
  ∀ (s : State) (a : AgentId) (bytes : List Byte), (s.link a).linkState = .run →
    let cut := withLink s a (cutOff (s.link a) .waitSync)
    let x := s.session a
    let erring := withSession s a
      { x with counters := { x.counters with protocolErrors := countUp x.counters.protocolErrors } }
    (checkFrame bytes = .framingFault →
      exec (.frameArrival a bytes) s = .next (logged cut (.linkState (.agent a) .waitSync .framingError))) ∧
    (checkFrame bytes = .crcFailure →
      exec (.frameArrival a bytes) s = .next (logged
        (withSession cut a { x with counters := { x.counters with linkCrcErrors := countUp x.counters.linkCrcErrors } })
        (.linkState (.agent a) .waitSync .crcError))) ∧
    ∀ f, checkFrame bytes = .wellFormed f →
      ((∃ k, agentClass f.kind = .answerable k) ∧ (s.link a).answerable.outstanding = 0 ∨
        ((∃ k, agentClass f.kind = .closing k) ∨ agentClass f.kind = .unknown) ∧
          (s.link a).closing.outstanding = 0 →
        exec (.frameArrival a bytes) s = .next (logged cut (.linkState (.agent a) .waitSync .creditOverrun))) ∧
      (agentClass f.kind = .unknown → 0 < (s.link a).closing.outstanding →
        exec (.frameArrival a bytes) s = .next (logged
          (withLink erring a
            { s.link a with
              closing :=
                { frames := (s.link a).closing.frames
                  outstanding := (s.link a).closing.outstanding - 1
                  toReturn := (s.link a).closing.toReturn + 1 }
              recallCredit := min ((s.link a).recallCredit + f.creditX) x.recallWindow })
          (.protocolError (.agent a) .unknownKind f.kind))) ∧
      (f.kind = kindSync → f.body.length ≠ 1 →
        exec (.frameArrival a bytes) s = .next (logged erring (.protocolError (.agent a) .badSync kindSync)))

/-- Outside RUN only SYNC is acted on, and in DOWN nothing is received. In WAIT_SYNC a CRC failure is counted, a SYNC with a
bad body is a protocol error, and every other frame but a good SYNC is gone without a trace (R131, R133, R154). -/
def Obligations.FramesOutsideRun : Prop :=
  ∀ (s : State) (a : AgentId) (bytes : List Byte),
    ((s.link a).linkState = .down → exec (.frameArrival a bytes) s = .next s) ∧
    (s.mgmtLink.linkState = .down → exec (.mgmtFrameArrival bytes) s = .next s) ∧
    ((s.link a).linkState = .waitSync →
      let x := s.session a
      (checkFrame bytes = .framingFault → exec (.frameArrival a bytes) s = .next s) ∧
      (checkFrame bytes = .crcFailure → exec (.frameArrival a bytes) s = .next (withSession s a
        { x with counters := { x.counters with linkCrcErrors := countUp x.counters.linkCrcErrors } })) ∧
      ∀ f, checkFrame bytes = .wellFormed f →
        (f.kind ≠ kindSync → exec (.frameArrival a bytes) s = .next s) ∧
        (f.kind = kindSync → f.body.length ≠ 1 → exec (.frameArrival a bytes) s = .next (logged
          (withSession s a
            { x with counters := { x.counters with protocolErrors := countUp x.counters.protocolErrors } })
          (.protocolError (.agent a) .badSync kindSync)))) ∧
    (s.mgmtLink.linkState = .waitSync →
      let l := s.mgmtLink
      (checkFrame bytes = .framingFault → exec (.mgmtFrameArrival bytes) s = .next s) ∧
      (checkFrame bytes = .crcFailure → exec (.mgmtFrameArrival bytes) s = .next
        { s with mgmtLink :=
          { l with counters := { l.counters with linkCrcErrors := countUp l.counters.linkCrcErrors } } }) ∧
      ∀ f, checkFrame bytes = .wellFormed f →
        (f.kind ≠ kindSync → exec (.mgmtFrameArrival bytes) s = .next s) ∧
        (f.kind = kindSync → f.body.length ≠ 1 → exec (.mgmtFrameArrival bytes) s = .next (logged
          { s with mgmtLink :=
            { l with counters := { l.counters with protocolErrors := countUp l.counters.protocolErrors } } }
          (.protocolError .mgmt .badSync kindSync))))

/-- A good SYNC in WAIT_SYNC or RUN: the session lease of a matching ACTIVE session is renewed, the link is in RUN, its
accounts are rebuilt from what it holds, the recall credit is the count capped at the window, and a SYNC_ACK carries the
rebuilt amounts (R142, R143). -/
def Obligations.GoodSyncRebuilds : Prop :=
  ∀ (s : State) (a : AgentId) (bytes : List Byte) (f : RawFrame),
    (s.link a).linkState ≠ .down → checkFrame bytes = .wellFormed f → f.kind = kindSync → f.body.length = 1 →
    let l := s.link a
    let answerable := 16 - l.answerable.frames.length
    let closing := 8 - l.closing.frames.length
    let entering := l.linkState = .waitSync
    exec (.frameArrival a bytes) s = .next
      { s with
        sessions :=
          if isActive (s.session a).state = true ∧ f.epoch = (s.session a).epoch then s.sessions.set a (renewed s a)
          else s.sessions
        reportQueue :=
          if entering then s.reportQueue.append (.linkState (.agent a) .run .sync) else s.reportQueue
        agentLinks := s.agentLinks.set a
          { linkState := .run
            answerable := { frames := l.answerable.frames, outstanding := answerable, toReturn := 0 }
            closing := { frames := l.closing.frames, outstanding := closing, toReturn := 0 }
            recallCredit := min (field f.body 0 1) (s.session a).recallWindow
            replies := l.replies
            control :=
              if l.control.all ControlFrame.isNotice then l.control ++ [.syncAck answerable closing]
              else l.control.map fun c => if c.isNotice then c else .syncAck answerable closing
            transmitter := l.transmitter
            turn := if entering then .reply else l.turn } }

/-- The arbiter of an agent link in RUN with an IDLE transmitter: a control frame first, then a reply or a RECALL by
turn, then a CREDIT frame. The frame leaves its lane with the credit returns in its header, which move into outstanding
credit, and the transmitter is BUSY with its bytes (R63, R138, R145 to R149). That the transmitter holds the bytes is the
model's choice (assumption 6), and so is that a send with nothing to send changes nothing (assumption 2). -/
def Obligations.AgentLinkSends : Prop :=
  ∀ (s : State) (a : AgentId), (s.link a).linkState = .run → (s.link a).transmitter = .idle →
    let l := s.link a
    let x := s.session a
    let returned (bytes : List Byte) : AgentLink :=
      { l with
        answerable :=
          { l.answerable with outstanding := l.answerable.outstanding + l.answerable.toReturn, toReturn := 0 }
        closing := { l.closing with outstanding := l.closing.outstanding + l.closing.toReturn, toReturn := 0 }
        transmitter := .busy bytes }
    let frame (kind tag : Nat) (body : List Byte) : List Byte :=
      frameBytes kind tag x.epoch l.answerable.toReturn l.closing.toReturn body
    let recallReady := 0 < l.recallCredit ∧ s.sendList a ≠ []
    (∀ c rest, l.control = c :: rest → exec (.agentLinkSend a) s = .next
      (withLink s a { returned (frame c.kindCode 0 c.body) with control := rest })) ∧
    (∀ r rest, l.control = [] → l.replies.filled = r :: rest → (l.turn = .reply ∨ ¬recallReady) →
      exec (.agentLinkSend a) s = .next
        (withSession
          (withLink s a
            { returned (frame r.reply.kindCode r.tag r.reply.body) with
              replies := { l.replies with filled := rest }, turn := .recallLane })
          a
          (if isRefused r.reply then
            { x with counters := { x.counters with refusalsSent := countUp x.counters.refusalsSent } }
           else x))) ∧
    (∀ m rest, l.control = [] → s.sendList a = m :: rest → 0 < l.recallCredit →
      (l.replies.filled = [] ∨ l.turn = .recallLane) →
      exec (.agentLinkSend a) s = .next
        { withLink s a
            { returned (frame kindRecall 0 m.body) with recallCredit := l.recallCredit - 1, turn := .reply } with
          sendLists := s.sendLists.set a rest }) ∧
    (l.control = [] → l.replies.filled = [] → ¬recallReady →
      exec (.agentLinkSend a) s =
        if 0 < l.answerable.toReturn ∨ 0 < l.closing.toReturn then
          .next (withLink s a (returned (frame kindCredit 0 [])))
        else .next s)

/-! ## The management link -/

/-- A frame on LI-M in RUN: a command with credit is buffered; errors and unknown kinds do as on an agent link, with LI-M's
own counters (R154). -/
def Obligations.MgmtFramesInRun : Prop :=
  ∀ (s : State) (bytes : List Byte), s.mgmtLink.linkState = .run →
    let l := s.mgmtLink
    let cut := { s with mgmtLink := mgmtCutOff l .waitSync }
    let erring := { l.counters with protocolErrors := countUp l.counters.protocolErrors }
    (checkFrame bytes = .framingFault →
      exec (.mgmtFrameArrival bytes) s = .next (logged cut (.linkState .mgmt .waitSync .framingError))) ∧
    (checkFrame bytes = .crcFailure →
      exec (.mgmtFrameArrival bytes) s = .next (logged
        { s with mgmtLink :=
            { mgmtCutOff l .waitSync with
              counters := { l.counters with linkCrcErrors := countUp l.counters.linkCrcErrors } } }
        (.linkState .mgmt .waitSync .crcError))) ∧
    ∀ f, checkFrame bytes = .wellFormed f →
      (f.kind ≠ kindSync → l.command.outstanding = 0 →
        exec (.mgmtFrameArrival bytes) s = .next (logged cut (.linkState .mgmt .waitSync .creditOverrun))) ∧
      (∀ k, mgmtClass f.kind = .command k → 0 < l.command.outstanding →
        exec (.mgmtFrameArrival bytes) s = .next { s with mgmtLink :=
          { l with
            command :=
              { frames := l.command.frames ++ [{ kind := k, tag := f.tag, epoch := f.epoch, body := f.body }]
                outstanding := l.command.outstanding - 1
                toReturn := l.command.toReturn }
            reportCredit := min (l.reportCredit + f.creditX) s.params.reportWindow } }) ∧
      (mgmtClass f.kind = .unknown → 0 < l.command.outstanding →
        exec (.mgmtFrameArrival bytes) s = .next (logged
          { s with mgmtLink :=
            { l with
              command :=
                { frames := l.command.frames
                  outstanding := l.command.outstanding - 1
                  toReturn := l.command.toReturn + 1 }
              reportCredit := min (l.reportCredit + f.creditX) s.params.reportWindow
              counters := erring } }
          (.protocolError .mgmt .unknownKind f.kind))) ∧
      (f.kind = kindSync → f.body.length ≠ 1 →
        exec (.mgmtFrameArrival bytes) s = .next (logged { s with mgmtLink := { l with counters := erring } }
          (.protocolError .mgmt .badSync kindSync)))

/-- A good SYNC on LI-M in WAIT_SYNC or RUN (R156). -/
def Obligations.MgmtGoodSyncRebuilds : Prop :=
  ∀ (s : State) (bytes : List Byte) (f : RawFrame),
    s.mgmtLink.linkState ≠ .down → checkFrame bytes = .wellFormed f → f.kind = kindSync → f.body.length = 1 →
    let l := s.mgmtLink
    let entering := l.linkState = .waitSync
    exec (.mgmtFrameArrival bytes) s = .next
      { s with
        reportQueue := if entering then s.reportQueue.append (.linkState .mgmt .run .sync) else s.reportQueue
        mgmtLink :=
          { l with
            linkState := .run
            command := { frames := l.command.frames, outstanding := 4 - l.command.frames.length, toReturn := 0 }
            reportCredit := min (field f.body 0 1) s.params.reportWindow
            syncAck := some (4 - l.command.frames.length)
            turn := if entering then .reply else l.turn } }

/-- The arbiter of LI-M: SYNC_ACK first, then a REPLY or a REPORT by turn, then a CREDIT frame (R155, R158, R175). That the
transmitter holds the bytes is the model's choice (assumption 6), and so is that a send with nothing to send changes nothing
(assumption 2). -/
def Obligations.MgmtLinkSends : Prop :=
  ∀ s : State, s.mgmtLink.linkState = .run → s.mgmtLink.transmitter = .idle →
    let l := s.mgmtLink
    let q := s.reportQueue
    let returned (bytes : List Byte) : MgmtLink :=
      { l with
        command := { l.command with outstanding := l.command.outstanding + l.command.toReturn, toReturn := 0 }
        transmitter := .busy bytes }
    let frame (kind tag : Nat) (body : List Byte) : List Byte := frameBytes kind tag 0 l.command.toReturn 0 body
    let reportReady := 0 < l.reportCredit ∧ (q.reports ≠ [] ∨ q.marker = true)
    (∀ n, l.syncAck = some n → exec .mgmtLinkSend s = .next
      { s with mgmtLink :=
        { returned (frame kindSyncAck 0 (beBytes 1 n ++ beBytes 1 0)) with syncAck := none } }) ∧
    (∀ r rest, l.syncAck = none → l.replies.filled = r :: rest → (l.turn = .reply ∨ ¬reportReady) →
      exec .mgmtLinkSend s = .next
        { s with mgmtLink :=
          { returned (frame kindReply r.tag r.body) with
            replies := { l.replies with filled := rest }
            turn := .report
            counters :=
              if r.status = .ok then l.counters
              else { l.counters with refusedReplies := countUp l.counters.refusedReplies } } }) ∧
    (∀ r rest, l.syncAck = none → q.reports = r :: rest → 0 < l.reportCredit →
      (l.replies.filled = [] ∨ l.turn = .report) →
      exec .mgmtLinkSend s = .next
        { s with
          mgmtLink :=
            { returned (frame kindReport 0 r.body) with reportCredit := l.reportCredit - 1, turn := .reply }
          reportQueue := { q with reports := rest } }) ∧
    (l.syncAck = none → q.reports = [] → q.marker = true → 0 < l.reportCredit →
      (l.replies.filled = [] ∨ l.turn = .report) →
      exec .mgmtLinkSend s = .next
        { s with
          mgmtLink :=
            { returned (frame kindReport 0 (overflowBody q.lost)) with
              reportCredit := l.reportCredit - 1, turn := .reply }
          reportQueue := { q with marker := false } }) ∧
    (l.syncAck = none → l.replies.filled = [] → ¬reportReady →
      exec .mgmtLinkSend s =
        if 0 < l.command.toReturn then .next { s with mgmtLink := returned (frame kindCredit 0 []) } else .next s)

/-- Each row of the table of R173, and the overflow of R174. A NOTICE joins the tail of a control lane; where 16 wait, the
oldest of them leaves it (R144). -/
def Obligations.ReportsAndNoticesJoin : Prop :=
  (∀ (q : ReportQueue) (r : Report),
    (q.suspended = false → q.reports.length < 64 → q.append r = { q with reports := q.reports ++ [r] }) ∧
    (q.suspended = false → 64 ≤ q.reports.length →
      q.append r = { reports := q.reports, marker := true, suspended := true, lost := 1 }) ∧
    (q.suspended = true → q.lost < 2 ^ 32 - 1 → q.append r = { q with lost := q.lost + 1 }) ∧
    (q.suspended = true → 2 ^ 32 - 1 ≤ q.lost → q.append r = q)) ∧
  ∀ (lane : List ControlFrame) (kind : NoticeKind) (epoch : Nat),
    (lane.countP ControlFrame.isNotice < 16 → addNotice lane kind epoch = lane ++ [.notice kind epoch]) ∧
    (16 ≤ lane.countP ControlFrame.isNotice → ∀ before oldest after, lane = before ++ oldest :: after →
      oldest.isNotice = true → (∀ c ∈ before, c.isNotice = false) →
      addNotice lane kind epoch = before ++ after ++ [.notice kind epoch])

/-! ## Sessions -/

/-- The session checks of R30 for every answerable kind but JOIN: the frame is taken and answered with the code of the
first check that fails, its lease not renewed, and nothing else changes. -/
def Obligations.SessionChecksRefuse : Prop :=
  ∀ (s : State) (a : AgentId) (k : AnswerableKind) (f : Frame AnswerableKind) (rest : List (Frame AnswerableKind)),
    UnconfiguredLaw s → AnswerableHead s a k f rest → k ≠ .join →
    let refusing (code : RefusalCode) : Prop :=
      exec (answerableCommand a k) s = .next (turnedAway s a rest { tag := f.tag, reply := .refused code })
    (s.management.state = .unconfigured → refusing .notReady) ∧
    (s.management.state ≠ .unconfigured →
      ((s.session a).state = .offline → refusing .notJoined) ∧
      ((s.session a).state = .fenced → refusing .fenced) ∧
      (isActive (s.session a).state = true → f.epoch ≠ (s.session a).epoch → refusing .staleEpoch))

/-- The first four tests of R81. A JOIN refused BAD_REQUEST while ACTIVE renews the lease if its epoch matches (R87). -/
def Obligations.JoinRefused : Prop :=
  ∀ (s : State) (a : AgentId) (f : Frame AnswerableKind) (rest : List (Frame AnswerableKind)),
    UnconfiguredLaw s → AnswerableHead s a .join f rest →
    let refusal (code : RefusalCode) : TaggedReply := { tag := f.tag, reply := .refused code }
    let refusing (code : RefusalCode) : Prop := exec (.join a) s = .next (turnedAway s a rest (refusal code))
    let bad := 31 < f.tag ∨ f.body.length ≠ 1 ∨ field f.body 0 1 = 0 ∨ 16 < field f.body 0 1
    (s.management.state = .unconfigured → refusing .notReady) ∧
    (s.management.state ≠ .unconfigured →
      ((s.session a).state = .fenced → refusing .fenced) ∧
      ((s.session a).state = .offline → (s.session a).admitFlag = false → refusing .notAdmitted) ∧
      ((s.session a).state = .offline → (s.session a).admitFlag = true → bad → refusing .badRequest) ∧
      (isActive (s.session a).state = true → bad → f.epoch ≠ (s.session a).epoch → refusing .badRequest) ∧
      (isActive (s.session a).state = true → bad → f.epoch = (s.session a).epoch →
        exec (.join a) s = .next (answered s a rest (refusal .badRequest))))

/-- A JOIN from an OFFLINE, admitted agent starts a session (R79, R82). -/
def Obligations.JoinStartsSession : Prop :=
  ∀ (s : State) (a : AgentId) (f : Frame AnswerableKind) (rest : List (Frame AnswerableKind)) (w : Nat),
    AnswerableHead s a .join f rest → JoinAsks f w → s.management.state ≠ .unconfigured →
    (s.session a).state = .offline → (s.session a).admitFlag = true →
    let epoch := if (s.session a).epoch = 2 ^ 32 - 1 then 1 else (s.session a).epoch + 1
    let p := s.params
    exec (.join a) s = .next (withSession
      (withLink s a
        { answeredLink (s.link a) rest
            { tag := f.tag, reply :=
                .joined epoch p.leasePeriod p.recallTimeout p.attemptLimit p.volume w } with
          recallCredit := w })
      a
      { s.session a with state := .active (s.timeBase + p.leasePeriod), epoch := epoch, recallWindow := w })

/-- A JOIN while ACTIVE ends the old session as a LEAVE does, starts a new one under the next epoch, answers JOINED after
the SESSION_ENDED replies, and walks once (R83). -/
def Obligations.JoinReplacesSession : Prop :=
  ∀ (s : State) (a : AgentId) (f : Frame AnswerableKind) (rest : List (Frame AnswerableKind)) (w : Nat),
    IndexLaw s → AnswerableHead s a .join f rest → JoinAsks f w → s.management.state ≠ .unconfigured →
    isActive (s.session a).state = true →
    let epoch := if (s.session a).epoch = 2 ^ 32 - 1 then 1 else (s.session a).epoch + 1
    let p := s.params
    let ended := sessionOver (held s a rest) a
    exec (.join a) s = .next (replied
      (withSession (withLink ended a { ended.link a with recallCredit := w }) a
        { s.session a with state := .active (s.timeBase + p.leasePeriod), epoch := epoch, recallWindow := w })
      a
      { tag := f.tag, reply :=
          .joined epoch p.leasePeriod p.recallTimeout p.attemptLimit p.volume w }).reevaluate

/-- A LEAVE in session: BAD_REQUEST for a bad tag or body, otherwise the six steps of R85. -/
def Obligations.LeaveEndsSession : Prop :=
  ∀ (s : State) (a : AgentId) (f : Frame AnswerableKind) (rest : List (Frame AnswerableKind)),
    IndexLaw s → AnswerableHead s a .leave f rest → InSession s a f.epoch →
    ((31 < f.tag ∨ f.body ≠ []) →
      exec (.leave a) s = .next (answered s a rest { tag := f.tag, reply := .refused .badRequest })) ∧
    (f.tag ≤ 31 → f.body = [] →
      exec (.leave a) s = .next
        (withSession (replied (sessionOver (held s a rest) a) a { tag := f.tag, reply := .left }) a
          { s.session a with state := .offline }).reevaluate)

/-- A session lease deadline that the count has reached fences its agent (R2, R89, R93). -/
def Obligations.LeaseExpiryFences : Prop :=
  ∀ (s : State) (a : AgentId) (deadline : Nat), IndexLaw s → (s.session a).state = .active deadline →
    deadline = s.timeBase → exec (.sessionLeaseExpiry a) s = .next (fenced s a .leaseExpired).reevaluate

/-! ## Requests -/

/-- The session's field checks and tests of R32 and R37 that refuse an ACQUIRE, in their order; each is answered at once
and changes nothing but the taking. -/
def Obligations.AcquireRefused : Prop :=
  ∀ (s : State) (a : AgentId) (f : Frame AnswerableKind) (rest : List (Frame AnswerableKind)),
    AnswerableHead s a .acquire f rest → InSession s a f.epoch →
    let refusing (code : RefusalCode) : Prop :=
      exec (.acquire a) s = .next (answered s a rest { tag := f.tag, reply := .refused code })
    ((¬TagFree s a f.tag ∨ f.body.length ≠ 12 ∨ Mode.ofCode (field f.body 9 1) = none) → refusing .badRequest) ∧
    ∀ x m w, AcquireAsks f x m w → TagFree s a f.tag →
      (x.valid s.params.volume = false → refusing .badExtent) ∧
      (x.valid s.params.volume = true →
        (¬NoSelfOverlap s a x → refusing .selfOverlap) ∧
        (NoSelfOverlap s a x → ∀ o, s.obstacle s.waitList (acquiring a x m) = some o →
          (w = 0 → refusing .conflict) ∧
          (w ≠ 0 → o = .room → refusing .tableFull) ∧
          (w ≠ 0 → o ≠ .room → 128 ≤ s.waitList.length → refusing .waitFull)))

/-- A grantable ACQUIRE creates its record in the lowest free slot with the next token, is answered GRANTED and counted
(R11, R15, R18, R38). A record that enters the index joins those that are there. -/
def Obligations.AcquireGranted : Prop :=
  (∀ (r : GrantRecord) (records : List GrantRecord), (insertRecord r records).Perm (r :: records)) ∧
  ∀ (s : State) (a : AgentId) (f : Frame AnswerableKind) (rest : List (Frame AnswerableKind)) (x : Extent) (m : Mode)
      (w slot : Nat),
    AcquireReady s a f rest x m w → s.obstacle s.waitList (acquiring a x m) = none → LowestFree s slot →
    let token := s.grantTable.counter + 1
    let y := renewed s a
    exec (.acquire a) s = .next
      { withSession (answered s a rest { tag := f.tag, reply := .granted token x m }) a
          { y with counters := { y.counters with grantsIssued := countUp y.counters.grantsIssued } } with
        grantTable :=
          { records := insertRecord
              { slot := slot, token := token, holder := a, epoch := f.epoch, extent := x, mode := m,
                recallRecord := none, sweepPending := false } s.grantTable.records
            counter := token } }

/-- A request that may wait joins the tail of the Wait List with its deadline: QUEUED behind an earlier entry or a barrier,
or RECALLING with a recall asked of every conflicting record in index order (R33, R39, R47 step 6). -/
def Obligations.RequestsWait : Prop :=
  ∀ (s : State) (a : AgentId) (f : Frame AnswerableKind) (rest : List (Frame AnswerableKind)) (w : Nat),
    w ≠ 0 → s.waitList.length < 128 →
    let waiting (c : Claim) (state : EntryState) : State :=
      { held s a rest with waitList := s.waitList ++
          [{ agent := a, tag := f.tag, epoch := f.epoch, kind := c.kind, extent := c.extent, mode := c.mode,
             deadline := s.timeBase + w, state := state }] }
    let waits (cmd : Instr) (c : Claim) : Prop :=
      (s.obstacle s.waitList c = some .earlier → exec cmd s = .next (waiting c (.queued .earlier))) ∧
      (s.obstacle s.waitList c = some .barrier → exec cmd s = .next (waiting c (.queued .barrier))) ∧
      (s.obstacle s.waitList c = some .records →
        exec cmd s = .next ((waiting c .recalling).recallConflicts c))
    (∀ x m, AcquireReady s a f rest x m w → waits (.acquire a) (acquiring a x m)) ∧
    (∀ r, IndexLaw s → ConvertReady s a f rest r .exclusive w → r.recallRecord = none →
      waits (.convert a) (upgrading a r))

/-- The tests of R32, R45 and R47 that refuse a CONVERT, in their order. -/
def Obligations.ConvertRefused : Prop :=
  ∀ (s : State) (a : AgentId) (f : Frame AnswerableKind) (rest : List (Frame AnswerableKind)),
    IndexLaw s → AnswerableHead s a .convert f rest → InSession s a f.epoch →
    let refusing (code : RefusalCode) : Prop :=
      exec (.convert a) s = .next (answered s a rest { tag := f.tag, reply := .refused code })
    ((¬TagFree s a f.tag ∨ f.body.length ≠ 11 ∨ Mode.ofCode (field f.body 8 1) = none) → refusing .badRequest) ∧
    (∀ token m w, ConvertAsks f token m w → TagFree s a f.tag →
      ((∀ r, ¬Cites s a token r) → refusing .unknownGrant) ∧
      (∀ r, Cites s a token r → (m = r.mode ∨ ∃ e ∈ s.waitList, e.agent = a ∧ e.kind = .convert r.slot) →
        refusing .badRequest)) ∧
    (∀ r w, ConvertReady s a f rest r .exclusive w →
      (r.recallRecord.isSome = true → refusing .recalled) ∧
      (r.recallRecord = none → ∀ o, s.obstacle s.waitList (upgrading a r) = some o →
        (w = 0 → refusing .conflict) ∧
        (w ≠ 0 → o = .room → refusing .tableFull) ∧
        (w ≠ 0 → o ≠ .room → 128 ≤ s.waitList.length → refusing .waitFull)))

/-- A grantable CONVERT to EXCLUSIVE upgrades its record in place under a new token, is answered CONVERTED and counted
(R15, R19, R47 step 2). -/
def Obligations.ConvertUpgrades : Prop :=
  ∀ (s : State) (a : AgentId) (f : Frame AnswerableKind) (rest : List (Frame AnswerableKind)) (r : GrantRecord)
      (w : Nat),
    IndexLaw s → ConvertReady s a f rest r .exclusive w → r.recallRecord = none →
    s.obstacle s.waitList (upgrading a r) = none →
    let token := s.grantTable.counter + 1
    let y := renewed s a
    exec (.convert a) s = .next
      { withSession (answered s a rest { tag := f.tag, reply := .converted token .exclusive }) a
          { y with counters := { y.counters with grantsIssued := countUp y.counters.grantsIssued } } with
        grantTable :=
          { records := s.grantTable.records.map fun q =>
              if q = r then { r with mode := .exclusive, token := token } else q
            counter := token } }

/-- A CONVERT to SHARED of an EXCLUSIVE record downgrades it whatever its max-wait, keeps its token, hands a recalled
record's outcome to the Churn Monitor, walks once and answers CONVERTED (R23, R46). That the answer is placed after the
walk's replies is the model's reading (assumption 4). -/
def Obligations.ConvertDowngrades : Prop :=
  ∀ (s : State) (a : AgentId) (f : Frame AnswerableKind) (rest : List (Frame AnswerableKind)) (r : GrantRecord)
      (w : Nat),
    IndexLaw s → ConvertReady s a f rest r .shared w →
    let down := downgraded (held s a rest) r
    exec (.convert a) s = .next (replied
      (if r.recallRecord.isSome then churned down a .recalled else down).reevaluate
      a { tag := f.tag, reply := .converted r.token .shared })

/-- QUERY is answered at once with the range walk's records, or refused (R32, R50). -/
def Obligations.QueryAnswered : Prop :=
  ∀ (s : State) (a : AgentId) (f : Frame AnswerableKind) (rest : List (Frame AnswerableKind)),
    AnswerableHead s a .query f rest → InSession s a f.epoch →
    let x : Extent := { start := field f.body 0 6, length := field f.body 6 3 }
    let answering (reply : AgentReply) : Prop :=
      exec (.query a) s = .next (answered s a rest { tag := f.tag, reply := reply })
    ((¬TagFree s a f.tag ∨ f.body.length ≠ 15) → answering (.refused .badRequest)) ∧
    (TagFree s a f.tag → f.body.length = 15 →
      (x.valid s.params.volume = false → answering (.refused .badExtent)) ∧
      (x.valid s.params.volume = true →
        answering (.queryResult ((walkRecords s.grantTable.records x (field f.body 9 6)).map GrantRecord.descriptor)
          (walkMore s.grantTable.records x (field f.body 9 6)))))

/-- The range walk over an ordered index returns whole groups of one start from the front of the selected records, at most
12 of them, stops only at a group that would pass 12, and says whether more is left (R14). -/
def Obligations.RangeWalkReturnsWholeGroups : Prop :=
  ∀ (records : List GrantRecord) (q : Extent) (p : Nat),
    records.Pairwise (fun r r' => r.before r' = true) →
    let selected := records.filter fun r => r.extent.overlaps q && decide (p ≤ r.extent.start)
    let got := walkRecords records q p
    got <+: selected ∧ got.length ≤ 12 ∧
    (∀ r ∈ got, ∀ r' ∈ selected, r'.extent.start = r.extent.start → r' ∈ got) ∧
    (∀ r rest, selected = got ++ r :: rest →
      12 < got.length + selected.countP fun r' => r'.extent.start = r.extent.start) ∧
    (walkMore records q p = true ↔ got ≠ selected)

/-- What first stands in the way of a claim, in the order of R41: an entry ahead that conflicts, a barrier that covers it, a
record that conflicts, want of room; it is grantable exactly when none of them does (R36, with the terms of R5, R11, R12, R16
and R111). Extents are valid and overlap as R3 and R4 say: of at least one block each, they overlap when they share a block. -/
def Obligations.GrantableOrFirstObstacle : Prop :=
  (∀ (s : State) (ahead : List WaitEntry) (c : Claim),
    let earlier := ∃ e ∈ ahead, c.agent ≠ e.agent ∧ c.extent.overlaps e.extent = true ∧
      (c.mode = .exclusive ∨ e.mode = .exclusive)
    let barred := ∃ w, s.sweep = some w ∧ w.mask.getLsbD c.agent.val = true ∧ c.extent.overlaps w.range = true ∧
      (w.kind = .revoke ∨ w.kind = .demote ∧ c.mode = .exclusive)
    let blocked := ∃ r ∈ s.grantTable.records, c.kind ≠ .convert r.slot ∧ c.agent ≠ r.holder ∧
      c.extent.overlaps r.extent = true ∧ (c.mode = .exclusive ∨ r.mode = .exclusive)
    let room := s.grantTable.counter < 2 ^ 64 - 1 ∧
      (c.kind = .acquire → ∃ n < 4096, ∀ r ∈ s.grantTable.records, r.slot ≠ n)
    (s.obstacle ahead c = none ↔ ¬earlier ∧ ¬barred ∧ ¬blocked ∧ room) ∧
    (s.obstacle ahead c = some .earlier ↔ earlier) ∧
    (s.obstacle ahead c = some .barrier ↔ ¬earlier ∧ barred) ∧
    (s.obstacle ahead c = some .records ↔ ¬earlier ∧ ¬barred ∧ blocked) ∧
    (s.obstacle ahead c = some .room ↔ ¬earlier ∧ ¬barred ∧ ¬blocked ∧ ¬room)) ∧
  (∀ (x : Extent) (volume : Nat),
    x.valid volume = true ↔ 1 ≤ x.length ∧ x.length ≤ 16777215 ∧ x.start + x.length ≤ volume) ∧
  ∀ x y : Extent, 1 ≤ x.length → 1 ≤ y.length → (x.overlaps y = true ↔ ShareBlock x y)

/-! ## Closing frames, waiting and recalls -/

/-- What every closing frame meets before the rule of its kind: a late frame without a session, the protocol errors BAD_EPOCH
and BAD_LENGTH, and for KEEPALIVE nothing beyond its taking (R31, R90, R141, R181). -/
def Obligations.ClosingFramesChecked : Prop :=
  ∀ (s : State) (a : AgentId) (k : ClosingKind) (f : Frame ClosingKind) (rest : List (Frame ClosingKind)),
    UnconfiguredLaw s → ClosingHead s a k f rest →
    let c := (s.session a).counters
    let need := if k = .release ∨ k = .downgrade then 8 else 0
    ((s.management.state = .unconfigured ∨ isActive (s.session a).state = false) →
      exec (closingCommand a k) s = .next (closedCounting s a rest { c with lateFrames := countUp c.lateFrames })) ∧
    (s.management.state ≠ .unconfigured → isActive (s.session a).state = true → f.epoch ≠ (s.session a).epoch →
      exec (closingCommand a k) s = .next (logged
        (closedCounting s a rest { c with protocolErrors := countUp c.protocolErrors })
        (.protocolError (.agent a) .badEpoch k.code))) ∧
    (InSession s a f.epoch → f.body.length ≠ need →
      exec (closingCommand a k) s = .next (logged
        (withSession (closed s a rest) a
          { renewed s a with counters := { c with protocolErrors := countUp c.protocolErrors } })
        (.protocolError (.agent a) .badLength k.code))) ∧
    (k = .keepalive → InSession s a f.epoch → f.body = [] →
      exec (.keepalive a) s = .next (closed s a rest))

/-- RELEASE of a token that is not found is BAD_RELEASE. Otherwise the record is removed, its recall and its message go, a
sweep that waited for it is told, the Churn Monitor is handed VOLUNTARY or RECALLED, a waiting CONVERT of the record is
answered GRANT_LOST, and one walk follows (R20, R21, R22). -/
def Obligations.ReleaseRemovesRecord : Prop :=
  ∀ (s : State) (a : AgentId) (f : Frame ClosingKind) (rest : List (Frame ClosingKind)),
    IndexLaw s → ClosingHead s a .release f rest → InSession s a f.epoch → f.body.length = 8 →
    let c := (s.session a).counters
    let token := field f.body 0 8
    ((∀ r, ¬Cites s a token r) →
      exec (.release a) s = .next (logged
        (withSession (closed s a rest) a
          { renewed s a with counters := { c with protocolErrors := countUp c.protocolErrors } })
        (.protocolError (.agent a) .badRelease 0x21))) ∧
    ∀ r, Cites s a token r →
      let gone := churned (released (closed s a rest) r) a (if r.recallRecord.isSome then .recalled else .voluntary)
      ((∀ e ∈ s.waitList, e.agent = a → e.kind ≠ .convert r.slot) →
        exec (.release a) s = .next gone.reevaluate) ∧
      ∀ before e after, s.waitList = before ++ e :: after → e.agent = a → e.kind = .convert r.slot →
        (∀ e' ∈ before, e'.agent = a → e'.kind ≠ .convert r.slot) →
        exec (.release a) s = .next
          (replied { gone with waitList := before ++ after } a { tag := e.tag, reply := .refused .grantLost }).reevaluate

/-- DOWNGRADE of a token that is not found is BAD_DOWNGRADE, of a SHARED record is a late frame, and of an EXCLUSIVE record
downgrades it, hands a recalled record's outcome to the Churn Monitor and walks once (R20, R23, R24). -/
def Obligations.DowngradeSharesRecord : Prop :=
  ∀ (s : State) (a : AgentId) (f : Frame ClosingKind) (rest : List (Frame ClosingKind)),
    IndexLaw s → ClosingHead s a .downgrade f rest → InSession s a f.epoch → f.body.length = 8 →
    let c := (s.session a).counters
    let token := field f.body 0 8
    let counting (counters : AgentCounters) : State :=
      withSession (closed s a rest) a { renewed s a with counters := counters }
    ((∀ r, ¬Cites s a token r) →
      exec (.downgrade a) s = .next (logged (counting { c with protocolErrors := countUp c.protocolErrors })
        (.protocolError (.agent a) .badDowngrade 0x22))) ∧
    (∀ r, Cites s a token r → r.mode = .shared →
      exec (.downgrade a) s = .next (counting { c with lateFrames := countUp c.lateFrames })) ∧
    (∀ r, Cites s a token r → r.mode = .exclusive →
      let down := downgraded (closed s a rest) r
      exec (.downgrade a) s = .next (if r.recallRecord.isSome then churned down a .recalled else down).reevaluate)

/-- A CANCEL and the passing of an entry's deadline take the entry out of its place, answer it CANCELLED or TIMED_OUT, and
walk once; a CANCEL that names no entry of the session is a late frame (R2, R48, R49). -/
def Obligations.EntriesTimedOutOrCancelled : Prop :=
  ∀ (s : State) (a : AgentId),
    (∀ before e after, s.waitList = before ++ e :: after → e.agent = a →
      (∀ e' ∈ before, e'.agent = a → e'.tag ≠ e.tag) → e.deadline = s.timeBase →
      exec (.waitDeadline a e.tag) s = .next
        (replied { s with waitList := before ++ after } a { tag := e.tag, reply := .refused .timedOut }).reevaluate) ∧
    ∀ (f : Frame ClosingKind) (rest : List (Frame ClosingKind)),
      ClosingHead s a .cancel f rest → InSession s a f.epoch → f.body = [] →
      let c := (s.session a).counters
      ((∀ e ∈ s.waitList, ¬(e.agent = a ∧ e.tag = f.tag ∧ e.epoch = f.epoch)) →
        exec (.cancel a) s = .next
          (withSession (closed s a rest) a { renewed s a with counters := { c with lateFrames := countUp c.lateFrames } })) ∧
      ∀ before e after, s.waitList = before ++ e :: after → e.agent = a → e.tag = f.tag → e.epoch = f.epoch →
        (∀ e' ∈ before, e'.agent = a → e'.tag ≠ f.tag) →
        exec (.cancel a) s = .next
          (replied { closed s a rest with waitList := before ++ after } a
            { tag := f.tag, reply := .refused .cancelled }).reevaluate

/-- A claim that records stand against asks for the recall of each, in index order, for the cause CONFLICT: RELEASE for an
EXCLUSIVE claim, DOWNGRADE for a SHARED one (R5, R35). A request to recall a record: issued if it is HELD, escalated if its
recall wants DOWNGRADE and the need is RELEASE, and otherwise no change (the table of R58, with R59, R60 and R62). -/
def Obligations.RecallRequestsHandled : Prop :=
  (∀ (s : State) (c : Claim), s.recallConflicts c =
    (s.grantTable.records.filter fun r => decide (c.kind ≠ .convert r.slot ∧ c.agent ≠ r.holder ∧
        c.extent.overlaps r.extent = true ∧ (c.mode = .exclusive ∨ r.mode = .exclusive))).foldl
      (fun t r => t.requestRecall r.slot (if c.mode = .exclusive then .release else .downgrade) .conflict) s) ∧
  ∀ (s : State) (r : GrantRecord) (wanted : Wanted) (cause : RecallCause),
    IndexLaw s → r ∈ s.grantTable.records →
    let h := r.holder
    let x := s.session h
    let with_ (rc : RecallRecord) : GrantTable :=
      { s.grantTable with
        records := s.grantTable.records.map fun q => if q = r then { r with recallRecord := some rc } else q }
    let message (wanted : Wanted) (attempt : Nat) : RecallMessage :=
      { token := r.token, extent := r.extent, wanted := wanted, attempt := attempt }
    let issued : State :=
      { withSession s h { x with counters := { x.counters with recallsIssued := countUp x.counters.recallsIssued } } with
        grantTable := with_
          { wanted := wanted, cause := cause, attempts := 1, deadline := s.timeBase + s.params.recallTimeout }
        sendLists := s.sendLists.set h (s.sendList h ++ [message wanted 1]) }
    (r.recallRecord = none →
      ((∀ e ∈ s.waitList, e.agent = h → e.kind ≠ .convert r.slot) → s.requestRecall r.slot wanted cause = issued) ∧
      ∀ before e after, s.waitList = before ++ e :: after → e.agent = h → e.kind = .convert r.slot →
        (∀ e' ∈ before, e'.agent = h → e'.kind ≠ .convert r.slot) →
        s.requestRecall r.slot wanted cause =
          replied { issued with waitList := before ++ after } h { tag := e.tag, reply := .refused .recalled }) ∧
    (∀ rc, r.recallRecord = some rc →
      (rc.wanted = .downgrade → wanted = .release → s.requestRecall r.slot wanted cause =
        { s with
          grantTable := with_ { rc with wanted := .release, cause := cause }
          sendLists := s.sendLists.set h
            (if (s.sendList h).any fun m => m.token = r.token then
              (s.sendList h).map fun m => if m.token = r.token then message .release rc.attempts else m
             else s.sendList h ++ [message .release rc.attempts]) }) ∧
      (¬(rc.wanted = .downgrade ∧ wanted = .release) → s.requestRecall r.slot wanted cause = s))

/-- A recall deadline that the count has reached: with attempts below N_r the recall is resent, its attempt number rising and its
deadline moving by T_r doubled for each attempt and capped at 64 × T_r; otherwise its holder is fenced RECALL_TIMEOUT (R2,
R66, R67, R68). -/
def Obligations.RecallDeadlineResendsOrFences : Prop :=
  ∀ (s : State) (r : GrantRecord) (rc : RecallRecord),
    IndexLaw s → r ∈ s.grantTable.records → r.recallRecord = some rc → rc.deadline = s.timeBase →
    let h := r.holder
    let k := rc.attempts + 1
    let interval := min (s.params.recallTimeout * 2 ^ (k - 1)) (64 * s.params.recallTimeout)
    (rc.attempts < s.params.attemptLimit →
      exec (.recallDeadline r.slot) s = .next
        { s with
          grantTable :=
            { s.grantTable with
              records := s.grantTable.records.map fun q =>
                if q = r then
                  { r with recallRecord := some { rc with attempts := k, deadline := s.timeBase + interval } }
                else q }
          sendLists := s.sendLists.set h
            (if (s.sendList h).any fun m => m.token = r.token then
              (s.sendList h).map fun m => if m.token = r.token then { m with attempt := k } else m
             else s.sendList h ++ [{ token := r.token, extent := r.extent, wanted := rc.wanted, attempt := k }]) }) ∧
    (s.params.attemptLimit ≤ rc.attempts →
      exec (.recallDeadline r.slot) s = .next (fenced s h .recallTimeout).reevaluate)

/-! ## Sweeps -/

/-- A sweep step. The first record ahead of the cursor that starts below the range end is reached, and examined if it overlaps
the range and its holder is masked; REVOKE and, of EXCLUSIVE records, DEMOTE recall it and add it to the pending set, and a walk
follows where that made an entry leave the Wait List. Where there is no such record the scan is finished: the sweep drains, or,
with an empty pending set, completes and the Wait List is walked once (R105 to R109, R113, R116). -/
def Obligations.SweepStepWalksIndex : Prop :=
  ∀ (s : State) (w : Sweep) (c : Cursor), s.sweep = some w → w.phase = .scanning c →
    (∀ (behind : List GrantRecord) (r : GrantRecord) (ahead : List GrantRecord),
      s.grantTable.records = behind ++ r :: ahead → (∀ q ∈ behind, c.isAhead q = false) → c.isAhead r = true →
      r.extent.start < w.range.start + w.range.length →
      let moved := { w with phase := .scanning (.after r.extent.start r.slot) }
      let t := w.tallies
      let counted : Tallies :=
        match r.mode with
        | .shared => { t with examined := countUp t.examined, censusShared := countUp t.censusShared }
        | .exclusive => { t with examined := countUp t.examined, censusExclusive := countUp t.censusExclusive }
      let examined := r.extent.overlaps w.range = true ∧ w.mask.getLsbD r.holder.val = true
      let recalls := w.kind = .revoke ∨ w.kind = .demote ∧ r.mode = .exclusive
      let asked := s.requestRecall r.slot (if w.kind = .revoke then .release else .downgrade) .sweep
      let joined : State :=
        { asked with
          sweep := some { moved with tallies := { counted with recalled := countUp counted.recalled } }
          grantTable :=
            { asked.grantTable with
              records := asked.grantTable.records.map fun q =>
                if q.slot = r.slot then { q with sweepPending := true } else q } }
      (¬examined → exec .sweepStep s = .next { s with sweep := some moved }) ∧
      (examined → ¬recalls → exec .sweepStep s = .next { s with sweep := some { moved with tallies := counted } }) ∧
      (examined → recalls → exec .sweepStep s =
        .next (if asked.waitList.length < s.waitList.length then joined.reevaluate else joined))) ∧
    ((∀ r ∈ s.grantTable.records, c.isAhead r = true → w.range.start + w.range.length ≤ r.extent.start) →
      ((∃ r ∈ s.grantTable.records, r.sweepPending = true) →
        exec .sweepStep s = .next { s with sweep := some { w with phase := .draining } }) ∧
      ((∀ r ∈ s.grantTable.records, r.sweepPending = false) →
        exec .sweepStep s = .next
          { logged s (.sweepDone w.id .complete w.tallies) with sweep := none }.reevaluate))

/-- SWEEP_START and SWEEP_ABORT: their tests in order, what a started sweep is, and what an aborted one leaves (R103, R104,
R105, R114, R166). A subtraction of naturals stops at 0, as the start of the cursor does. -/
def Obligations.SweepStartsAndAborts : Prop :=
  ∀ (s : State) (f : Frame CommandKind) (rest : List (Frame CommandKind)),
    let refusing (cmd : Instr) (status : Status) : Prop :=
      exec cmd s = .next (commanded s rest (refusedReply f.tag status))
    (CommandHead s .sweepStart f rest →
      let x : Extent := { start := field f.body 3 6, length := field f.body 9 3 }
      let mask := BitVec.ofNat 8 (field f.body 12 1)
      let kind := SweepKind.ofCode (field f.body 2 1)
      (s.management.state = .unconfigured → refusing .sweepStart .wrongState) ∧
      (s.management.state ≠ .unconfigured →
        (f.body.length ≠ 13 → refusing .sweepStart .badParam) ∧
        (f.body.length = 13 →
          (s.sweep ≠ none → refusing .sweepStart .sweepBusy) ∧
          (s.sweep = none → (kind = none ∨ mask = 0) → refusing .sweepStart .badParam) ∧
          (s.sweep = none → kind ≠ none → mask ≠ 0 → x.valid s.params.volume = false →
            refusing .sweepStart .badExtent) ∧
          (s.sweep = none → ∀ k, kind = some k → mask ≠ 0 → x.valid s.params.volume = true →
            exec .sweepStart s = .next
              { commanded s rest (okReply f.tag) with
                sweep := some
                  { id := field f.body 0 2, kind := k, range := x, mask := mask,
                    phase := .scanning (.before (x.start - 16777214) 0),
                    tallies := ⟨0, 0, 0, 0, 0, 0, 0⟩ } })))) ∧
    (CommandHead s .sweepAbort f rest →
      (f.body ≠ [] → refusing .sweepAbort .badParam) ∧
      (f.body = [] →
        (s.sweep = none → refusing .sweepAbort .noSweep) ∧
        (∀ w, s.sweep = some w →
          let left := s.grantTable.records.map fun r : GrantRecord => { r with sweepPending := false }
          let aborted : State :=
            { logged (commandTaken s rest) (.sweepDone w.id .aborted w.tallies) with
              sweep := none
              grantTable := { s.grantTable with records := left } }
          exec .sweepAbort s = .next (mgmtReplied aborted.reevaluate (okReply f.tag)))))

/-! ## Management commands -/

/-- CONFIGURE: WRONG_STATE outside UNCONFIGURED, BAD_PARAM for a length or a field out of range, and otherwise every parameter,
flag, group and setting from the body, the grant counter raised to the token floor, and the directory RUNNING (R17, R162,
R182). -/
def Obligations.ConfigureStartsDirectory : Prop :=
  ∀ (s : State) (f : Frame CommandKind) (rest : List (Frame CommandKind)), CommandHead s .configure f rest →
    let n (offset size : Nat) : Nat := field f.body offset size
    let goodGroup (o : Nat) : Prop :=
      n o 1 ≤ 1 ∧ 1 ≤ n (o + 1) 1 ∧ n (o + 1) 1 ≤ 64 ∧ 1 ≤ n (o + 2) 1 ∧ n (o + 2) 1 ≤ n (o + 1) 1 ∧ n (o + 3) 1 ≤ 1
    let good : Prop :=
      f.body.length = 39 ∧ (1 ≤ n 0 8 ∧ n 0 8 ≤ 2 ^ 48) ∧ (50 ≤ n 8 2 ∧ n 8 2 ≤ 60000) ∧
      (5 ≤ n 10 2 ∧ n 10 2 ≤ 10000) ∧ (1 ≤ n 12 1 ∧ n 12 1 ≤ 8) ∧ (1 ≤ n 13 1 ∧ n 13 1 ≤ 16) ∧
      (∀ a : AgentId, n (15 + a.val) 1 ≤ 1) ∧ goodGroup 23 ∧ goodGroup 27
    let group (o : Nat) : GroupSettings :=
      { enable := n o 1 = 1, window := n (o + 1) 1, threshold := n (o + 2) 1, notify := n (o + 3) 1 = 1 }
    (s.management.state ≠ .unconfigured →
      exec .configure s = .next (commanded s rest (refusedReply f.tag .wrongState))) ∧
    (s.management.state = .unconfigured → ¬good →
      exec .configure s = .next (commanded s rest (refusedReply f.tag .badParam))) ∧
    (s.management.state = .unconfigured → good →
      exec .configure s = .next
        { s with
          management :=
            { state := .running
              params :=
                { volume := n 0 8, leasePeriod := n 8 2, recallTimeout := n 10 2, attemptLimit := n 12 1,
                  reportWindow := n 13 1 } }
          grantTable := { s.grantTable with counter := max s.grantTable.counter (n 31 8) }
          sessions := ⟨Vector.ofFn fun a : Fin 8 =>
            { s.session a with
              admitFlag := (BitVec.ofNat 8 (n 14 1)).getLsbD a.val
              group := if n (15 + a.val) 1 = 1 then 1 else 0 }⟩
          churn := { s.churn with groups := ⟨group 23, group 27⟩ }
          mgmtLink :=
            { commandedLink s.mgmtLink rest (okReply f.tag) with reportCredit := n 13 1 } })

/-- SET_PARAM: its tests in order, and each parameter's effect, which clears the windows of a group whose enable, W or C it
sets and of an agent it moves, and keeps every alarm (R124, R125, R163, R164). -/
def Obligations.SetParamSetsOne : Prop :=
  ∀ (s : State) (f : Frame CommandKind) (rest : List (Frame CommandKind)), CommandHead s .setParam f rest →
    let id := field f.body 0 1
    let selector := field f.body 1 1
    let value := field f.body 2 8
    let refusing (status : Status) : Prop :=
      exec .setParam s = .next (commanded s rest (refusedReply f.tag status))
    let done := commanded s rest (okReply f.tag)
    let setting (p : Params) : Prop := exec .setParam s = .next { done with management := { s.management with params := p } }
    let p := s.params
    let beyond := (∃ r ∈ s.grantTable.records, value < r.extent.start + r.extent.length) ∨
      ∃ e ∈ s.waitList, value < e.extent.start + e.extent.length
    (s.management.state = .unconfigured → refusing .wrongState) ∧
    (s.management.state ≠ .unconfigured →
      ((f.body.length ≠ 10 ∨ id = 0 ∨ 9 < id) → refusing .badParam) ∧
      (f.body.length = 10 →
        (id = 1 →
          (¬(1 ≤ value ∧ value ≤ 2 ^ 48) → refusing .badParam) ∧
          (1 ≤ value ∧ value ≤ 2 ^ 48 →
            (beyond → refusing .inUse) ∧ (¬beyond → setting { p with volume := value }))) ∧
        (id = 2 →
          (¬(50 ≤ value ∧ value ≤ 60000) → refusing .badParam) ∧
          (50 ≤ value ∧ value ≤ 60000 → setting { p with leasePeriod := value })) ∧
        (id = 3 →
          (¬(5 ≤ value ∧ value ≤ 10000) → refusing .badParam) ∧
          (5 ≤ value ∧ value ≤ 10000 → setting { p with recallTimeout := value })) ∧
        (id = 4 →
          (¬(1 ≤ value ∧ value ≤ 8) → refusing .badParam) ∧
          (1 ≤ value ∧ value ≤ 8 → setting { p with attemptLimit := value })) ∧
        (5 ≤ id → id ≤ 8 → 1 < selector → refusing .badParam) ∧
        (∀ g : GroupId, selector = g.val →
          let x := s.churn.groups.get g
          let good : Prop :=
            if id = 6 then 1 ≤ value ∧ value ≤ 64 ∧ x.threshold ≤ value
            else if id = 7 then 1 ≤ value ∧ value ≤ x.window
            else value ≤ 1
          let y : GroupSettings :=
            if id = 5 then { x with enable := value = 1 }
            else if id = 6 then { x with window := value }
            else if id = 7 then { x with threshold := value }
            else { x with notify := value = 1 }
          5 ≤ id → id ≤ 8 →
            (¬good → refusing .badParam) ∧
            (good → exec .setParam s = .next
              { done with churn :=
                { groups := s.churn.groups.set g y
                  members :=
                    if id = 8 then s.churn.members
                    else ⟨Vector.ofFn fun a : Fin 8 =>
                      if (s.session a).group = g then { s.member a with window := [] } else s.member a⟩ } })) ∧
        (id = 9 →
          (7 < selector → refusing .badAgent) ∧
          (∀ a : AgentId, selector = a.val →
            (1 < value → refusing .badParam) ∧
            (∀ g : GroupId, value = g.val → exec .setParam s = .next
              { withSession done a { s.session a with group := g } with
                churn := { s.churn with members := s.churn.members.set a { s.member a with window := [] } } })))))

/-- ADMIT, EVICT and ACK_CHURN: BAD_PARAM, then BAD_AGENT, and otherwise their effect in every directory state; the REPLY to an
EVICT that fences is placed after the fencing's walk (R96, R97, R123, R165). -/
def Obligations.AgentCommandsActOnOne : Prop :=
  ∀ (s : State) (k : CommandKind) (f : Frame CommandKind) (rest : List (Frame CommandKind)),
    CommandHead s k f rest → k = .admitAgent ∨ k = .evict ∨ k = .ackChurn →
    let refusing (status : Status) : Prop :=
      exec (managementCommand k) s = .next (commanded s rest (refusedReply f.tag status))
    (f.body.length ≠ 1 → refusing .badParam) ∧
    (f.body.length = 1 → 7 < field f.body 0 1 → refusing .badAgent) ∧
    ∀ a : AgentId, f.body.length = 1 → field f.body 0 1 = a.val →
      let x := s.session a
      let done := commanded s rest (okReply f.tag)
      (k = .admitAgent → exec .admitAgent s = .next
        (withSession done a
          { x with admitFlag := true, state := if x.state = .fenced then .offline else x.state })) ∧
      (k = .evict → isActive x.state = false → exec .evict s = .next
        (withSession done a { x with admitFlag := false })) ∧
      (k = .evict → isActive x.state = true → IndexLaw s → exec .evict s = .next (mgmtReplied
        (fenced (withSession (commandTaken s rest) a { x with admitFlag := false }) a .evicted).reevaluate
        (okReply f.tag))) ∧
      (k = .ackChurn → exec .ackChurn s = .next
        { done with churn :=
          { s.churn with members := s.churn.members.set a { s.member a with alarm := false } } })

/-- PAUSE and RESUME move the directory between RUNNING and PAUSED and touch nothing else (R161). -/
def Obligations.PauseAndResume : Prop :=
  ∀ (s : State) (k : CommandKind) (f : Frame CommandKind) (rest : List (Frame CommandKind)),
    CommandHead s k f rest → k = .pause ∨ k = .resume →
    let source : DirectoryState := if k = .pause then .running else .paused
    let target : DirectoryState := if k = .pause then .paused else .running
    let refusing (status : Status) : Prop :=
      exec (managementCommand k) s = .next (commanded s rest (refusedReply f.tag status))
    (s.management.state ≠ source → refusing .wrongState) ∧
    (s.management.state = source → f.body ≠ [] → refusing .badParam) ∧
    (s.management.state = source → f.body = [] →
      exec (managementCommand k) s = .next
        { commanded s rest (okReply f.tag) with management := { s.management with state := target } })

/-- QUERY_EXTENT and QUERY_AGENT: their tests in order, and the fields they answer; neither changes a table (R167, R168). -/
def Obligations.ManagementQueriesAnswered : Prop :=
  ∀ (s : State) (f : Frame CommandKind) (rest : List (Frame CommandKind)),
    let answering (cmd : Instr) (reply : MgmtReply) : Prop := exec cmd s = .next (commanded s rest reply)
    (CommandHead s .queryExtent f rest →
      let x : Extent := { start := field f.body 0 6, length := field f.body 6 3 }
      let p := field f.body 9 6
      (s.management.state = .unconfigured → answering .queryExtent (refusedReply f.tag .wrongState)) ∧
      (s.management.state ≠ .unconfigured →
        (f.body.length ≠ 15 → answering .queryExtent (refusedReply f.tag .badParam)) ∧
        (f.body.length = 15 →
          (x.valid s.params.volume = false → answering .queryExtent (refusedReply f.tag .badExtent)) ∧
          (x.valid s.params.volume = true → answering .queryExtent
            { tag := f.tag
              status := .ok
              result := .extent ((walkRecords s.grantTable.records x p).map GrantRecord.descriptor)
                (walkMore s.grantTable.records x p) })))) ∧
    (CommandHead s .queryAgent f rest →
      (f.body.length ≠ 1 → answering .queryAgent (refusedReply f.tag .badParam)) ∧
      (f.body.length = 1 → 7 < field f.body 0 1 → answering .queryAgent (refusedReply f.tag .badAgent)) ∧
      ∀ a : AgentId, f.body.length = 1 → field f.body 0 1 = a.val →
        let x := s.session a
        let m := s.member a
        let mine := s.grantTable.records.filter fun r => r.holder = a
        let alarmed (g : GroupId) : Bool := decide (∃ b : AgentId, (s.session b).group = g ∧ (s.member b).alarm = true)
        let info : AgentInfo :=
          { session := match x.state with | .offline => .offline | .active _ => .active | .fenced => .fenced
            epoch := x.epoch, admitFlag := x.admitFlag, fenceCause := x.fenceCause
            recordsHeld := mine.length
            recallsOutstanding := mine.countP fun r => r.recallRecord.isSome
            sweepRecalls := mine.countP fun r => r.recallRecord.any fun rc => rc.cause = .sweep
            messagesWaiting := (s.sendList a).length
            entriesWaiting := s.waitList.countP fun e => e.agent = a
            linkState := (s.link a).linkState
            group := x.group, windowLength := m.window.length
            recalledCount := m.window.count .recalled, alarm := m.alarm
            group0Alarm := alarmed 0, group1Alarm := alarmed 1 }
        answering .queryAgent { tag := f.tag, status := .ok, result := .agent info })

/-- READ_COUNTERS: its tests in order, an agent's seven counters or LI-M's four with the STATUS body, this command counted in
them, and the clearing of what was read (R126, R169, R170). -/
def Obligations.CountersReadAndCleared : Prop :=
  ∀ (s : State) (f : Frame CommandKind) (rest : List (Frame CommandKind)), CommandHead s .readCounters f rest →
    let n := field f.body 0 1
    let clear := field f.body 1 1
    let l := s.mgmtLink
    let taken := { l.counters with commandsTaken := countUp l.counters.commandsTaken }
    let alarmed (g : GroupId) : Bool := decide (∃ b : AgentId, (s.session b).group = g ∧ (s.member b).alarm = true)
    let refusing (status : Status) : Prop :=
      exec .readCounters s = .next (commanded s rest (refusedReply f.tag status))
    (f.body.length ≠ 2 → refusing .badParam) ∧
    (f.body.length = 2 → 8 < n → refusing .badAgent) ∧
    (f.body.length = 2 → n ≤ 8 → 1 < clear → refusing .badParam) ∧
    (∀ a : AgentId, f.body.length = 2 → n = a.val → clear ≤ 1 →
      exec .readCounters s = .next (withSession
        (commanded s rest { tag := f.tag, status := .ok, result := .agentCounters (s.session a).counters })
        a
        { s.session a with
          counters := if clear = 1 then ⟨0, 0, 0, 0, 0, 0, 0⟩ else (s.session a).counters })) ∧
    (f.body.length = 2 → n = 8 → clear ≤ 1 →
      let status : StatusBody :=
        { directory := s.management.state
          recordCount := s.grantTable.records.length
          entryCount := s.waitList.length
          sweep := match s.sweep with
            | none => .idle
            | some w => match w.phase with
              | .scanning _ => .scanning
              | .draining => .draining
          suspended := s.reportQueue.suspended
          lost := s.reportQueue.lost
          grantCounter := s.grantTable.counter
          group0Alarm := alarmed 0, group1Alarm := alarmed 1 }
      let reply : MgmtReply := { tag := f.tag, status := .ok, result := .mgmtCounters taken status }
      exec .readCounters s = .next
        { s with mgmtLink :=
          { commandedLink l rest reply with counters := if clear = 1 then ⟨0, 0, 0, 0⟩ else taken } })

/-- REPORT_RESUME gives the lost count, clears it and the marker, and leaves the queue ACCEPTING with the reports it holds.
REPORT_ACK needs no slot and no credit of its own; with a body it is the protocol error BAD_LENGTH (R157, R176, R182). -/
def Obligations.ReportsResumedAndAcknowledged : Prop :=
  ∀ (s : State) (f : Frame CommandKind) (rest : List (Frame CommandKind)),
    (CommandHead s .reportResume f rest →
      (f.body ≠ [] → exec .reportResume s = .next (commanded s rest (refusedReply f.tag .badParam))) ∧
      (f.body = [] → s.reportQueue.suspended = true → exec .reportResume s = .next
        { commanded s rest { tag := f.tag, status := .ok, result := .lost s.reportQueue.lost } with
          reportQueue := { reports := s.reportQueue.reports, marker := false, suspended := false, lost := 0 } }) ∧
      (f.body = [] → s.reportQueue.suspended = false → exec .reportResume s = .next
        (commanded s rest { tag := f.tag, status := .ok, result := .lost 0 }))) ∧
    (s.mgmtLink.command.frames = f :: rest → f.kind = .reportAck → s.mgmtLink.linkState = .run →
      let l := { s.mgmtLink with command := leftBuffer s.mgmtLink.command rest }
      (f.body = [] → exec .reportAck s = .next { s with mgmtLink := l }) ∧
      (f.body ≠ [] → exec .reportAck s = .next (logged
        { s with mgmtLink :=
          { l with counters := { l.counters with protocolErrors := countUp l.counters.protocolErrors } } }
        (.protocolError .mgmt .badLength 0xA1))))

/-- RESET_DIRECTORY: its tests in order, and the seven steps of R171: entries answered DIRECTORY_RESET in arrival order, the
tables and send lists emptied, an active sweep aborted, ACTIVE sessions OFFLINE with a NOTICE, windows and alarms cleared, and
everything else kept (R52, R99, R115, R127, R171). -/
def Obligations.ResetEmptiesTables : Prop :=
  ∀ (s : State) (f : Frame CommandKind) (rest : List (Frame CommandKind)), CommandHead s .resetDirectory f rest →
    let refusing (status : Status) : Prop :=
      exec .resetDirectory s = .next (commanded s rest (refusedReply f.tag status))
    (s.management.state = .unconfigured → refusing .wrongState) ∧
    (s.management.state ≠ .unconfigured → f.body ≠ [] → refusing .badParam) ∧
    (s.management.state ≠ .unconfigured → f.body = [] →
      exec .resetDirectory s = .next
        { commanded s rest (okReply f.tag) with
          waitList := []
          grantTable := { s.grantTable with records := [] }
          sendLists := .const []
          sweep := none
          reportQueue :=
            match s.sweep with
            | none => s.reportQueue
            | some w => s.reportQueue.append (.sweepDone w.id .aborted w.tallies)
          sessions := ⟨Vector.ofFn fun a : Fin 8 =>
            if isActive (s.session a).state then { s.session a with state := .offline } else s.session a⟩
          churn := { s.churn with members := .const { window := [], alarm := false } }
          agentLinks := ⟨Vector.ofFn fun a : Fin 8 =>
            let l := s.link a
            { l with
              replies :=
                { reserved := l.replies.reserved - (s.entriesOf a).length
                  filled := l.replies.filled ++
                    (s.entriesOf a).map fun e => { tag := e.tag, reply := .refused .directoryReset } }
              control :=
                if isActive (s.session a).state then
                  addNotice l.control .directoryReset (s.session a).epoch
                else l.control }⟩ })

/-! ## Frames on the line -/

/-- Checks 1 to 3 of R132, in their order, and the fields of a frame that passes them (section 9.1); the check value of the
nine digits in ASCII (R178). A frame written as section 9.1 and R178 give passes and is read back field by field. -/
def Obligations.FramesCheckedAndReadBack : Prop :=
  (∀ bytes : List Byte,
    let n := bytes.length
    let content := bytes.take (n - 4)
    let size := field bytes 2 2
    (n < 14 ∨ 270 < n → checkFrame bytes = .framingFault) ∧
    (14 ≤ n → n ≤ 270 →
      ((crc32 content).toNat ≠ field bytes (n - 4) 4 → checkFrame bytes = .crcFailure) ∧
      ((crc32 content).toNat = field bytes (n - 4) 4 →
        (256 < size ∨ size ≠ n - 14 → checkFrame bytes = .framingFault) ∧
        (size ≤ 256 → size = n - 14 → checkFrame bytes = .wellFormed
          { kind := field bytes 0 1, tag := field bytes 1 1, epoch := field bytes 4 4, creditX := field bytes 8 1,
            body := content.drop 10 })))) ∧
  crc32 [0x31, 0x32, 0x33, 0x34, 0x35, 0x36, 0x37, 0x38, 0x39] = 0xCBF43926#32 ∧
  ∀ (kind tag epoch x y : Nat) (body : List Byte),
    kind < 2 ^ 8 → tag < 2 ^ 8 → epoch < 2 ^ 32 → x < 2 ^ 8 → y < 2 ^ 8 → body.length ≤ 256 →
    (frameBytes kind tag epoch x y body).length = 14 + body.length ∧
    checkFrame (frameBytes kind tag epoch x y body) =
      .wellFormed { kind := kind, tag := tag, epoch := epoch, creditX := x, body := body }
end

