-- ==== Sys2Proof/Laws/Bytes.lean ====
section
/-!
SUPPORT. Numbers written as bytes and read back (Chapter 9, section 9.1).
-/

namespace Sys2Proof.Laws

open Sys2Proof.Machine

@[simp] theorem length_beBytes (size n : Nat) : (beBytes size n).length = size := by
  induction size generalizing n with
  | zero => rfl
  | succ k ih => simp [beBytes, ih]

theorem beNat_snoc (bytes : List Byte) (b : Byte) : beNat (bytes ++ [b]) = beNat bytes * 256 + b.toNat := by
  simp [beNat, List.foldl_append]

/-- A number written in `size` bytes reads back modulo 256 to the `size`. -/
theorem beNat_beBytes (size n : Nat) : beNat (beBytes size n) = n % 256 ^ size := by
  induction size generalizing n with
  | zero => simp [beBytes, beNat, Nat.mod_one]
  | succ k ih =>
    rw [beBytes, beNat_snoc, ih, BitVec.toNat_ofNat, show 256 ^ (k + 1) = 256 * 256 ^ k from Nat.pow_succ', Nat.mod_mul]
    omega

/-- A number that fits reads back as it was written. -/
theorem beNat_beBytes_of_lt {size n : Nat} (h : n < 256 ^ size) : beNat (beBytes size n) = n := by
  rw [beNat_beBytes, Nat.mod_eq_of_lt h]

@[simp] theorem length_headerOf (kind tag bodyLength epoch x y : Nat) :
    (headerOf kind tag bodyLength epoch x y).length = 10 := by
  simp [headerOf]

/-- A field that stands behind `front` and before `rest` reads as the number its bytes spell. -/
theorem field_append (front mid rest : List Byte) (offset size : Nat) (h1 : front.length = offset)
    (h2 : mid.length = size) : field (front ++ (mid ++ rest)) offset size = beNat mid := by
  subst h1 h2
  simp [field]

end Sys2Proof.Laws
end

