-- ==== Sys2Proof/Laws/State.lean ====
section
/-!
SUPPORT. The small lemmas of the state: reading after a change, for one agent's part of a block and for each field.
-/

namespace Sys2Proof.Machine

/-! ## One value for each agent -/

theorem PerAgent.ext_get {α : Type} {p q : PerAgent α} (h : ∀ a, p.get a = q.get a) : p = q := by
  obtain ⟨v⟩ := p
  obtain ⟨w⟩ := q
  congr 1
  exact Vector.ext fun i hi => h ⟨i, hi⟩

@[simp] theorem PerAgent.get_set_self {α : Type} (p : PerAgent α) (a : AgentId) (x : α) : (p.set a x).get a = x := by
  simp [PerAgent.get, PerAgent.set]

theorem PerAgent.get_set {α : Type} (p : PerAgent α) (a b : AgentId) (x : α) :
    (p.set a x).get b = if b = a then x else p.get b := by
  by_cases h : b = a
  · subst h; simp
  · have h' : (a : Nat) ≠ (b : Nat) := fun e => h (Fin.ext e.symm)
    simp [PerAgent.get, PerAgent.set, h, h']

@[simp] theorem PerAgent.get_set_ne {α : Type} (p : PerAgent α) {a b : AgentId} (h : b ≠ a) (x : α) :
    (p.set a x).get b = p.get b := by rw [PerAgent.get_set, if_neg h]

@[simp] theorem PerAgent.set_set {α : Type} (p : PerAgent α) (a : AgentId) (x y : α) :
    (p.set a x).set a y = p.set a y := by
  apply PerAgent.ext_get; intro b; simp only [PerAgent.get_set]; split <;> rfl

@[simp] theorem PerAgent.set_get {α : Type} (p : PerAgent α) (a : AgentId) : p.set a (p.get a) = p := by
  apply PerAgent.ext_get; intro b; rw [PerAgent.get_set]; split
  · subst b; rfl
  · rfl

theorem PerAgent.set_comm {α : Type} (p : PerAgent α) {a b : AgentId} (h : a ≠ b) (x y : α) :
    (p.set a x).set b y = (p.set b y).set a x := by
  apply PerAgent.ext_get; intro c; simp only [PerAgent.get_set]
  by_cases h1 : c = b
  · subst h1; rw [if_pos rfl, if_neg (Ne.symm h), if_pos rfl]
  · simp [h1]

@[simp] theorem PerAgent.get_const {α : Type} (x : α) (a : AgentId) : (PerAgent.const x).get a = x := by
  simp [PerAgent.get, PerAgent.const]

@[simp] theorem PerAgent.get_modify_self {α : Type} (p : PerAgent α) (a : AgentId) (f : α → α) :
    (p.modify a f).get a = f (p.get a) := by simp [PerAgent.modify]

theorem PerAgent.get_modify {α : Type} (p : PerAgent α) (a b : AgentId) (f : α → α) :
    (p.modify a f).get b = if b = a then f (p.get b) else p.get b := by
  rw [PerAgent.modify, PerAgent.get_set]; split
  · subst b; rfl
  · rfl

@[simp] theorem PerAgent.get_modify_ne {α : Type} (p : PerAgent α) {a b : AgentId} (h : b ≠ a) (f : α → α) :
    (p.modify a f).get b = p.get b := by simp [PerAgent.modify, h]

@[simp] theorem PerAgent.modify_modify {α : Type} (p : PerAgent α) (a : AgentId) (f g : α → α) :
    (p.modify a f).modify a g = p.modify a fun x => g (f x) := by simp [PerAgent.modify]

theorem mem_allAgents (a : AgentId) : a ∈ allAgents := by revert a; decide

/-! ## One value for each group -/

@[simp] theorem PerGroup.get_set_self {α : Type} (p : PerGroup α) (g : GroupId) (x : α) : (p.set g x).get g = x := by
  by_cases h : g = 0 <;> simp [PerGroup.get, PerGroup.set, h]

theorem PerGroup.get_set {α : Type} (p : PerGroup α) (g k : GroupId) (x : α) :
    (p.set g x).get k = if k = g then x else p.get k := by
  by_cases h : k = g
  · subst h; simp
  · rw [if_neg h]
    match g, k with
    | 0, 0 => exact absurd rfl h
    | 0, 1 => rfl
    | 1, 0 => rfl
    | 1, 1 => exact absurd rfl h

/-! ## `State.modSession`, field by field -/

section

variable (s : State) (a : AgentId) (f : Session → Session)

@[simp] theorem State.modSession_timeBase : (s.modSession a f).timeBase = s.timeBase := rfl
@[simp] theorem State.modSession_grantTable : (s.modSession a f).grantTable = s.grantTable := rfl
@[simp] theorem State.modSession_waitList : (s.modSession a f).waitList = s.waitList := rfl
@[simp] theorem State.modSession_sendLists : (s.modSession a f).sendLists = s.sendLists := rfl
@[simp] theorem State.modSession_sessions : (s.modSession a f).sessions = s.sessions.modify a f := rfl
@[simp] theorem State.modSession_sweep : (s.modSession a f).sweep = s.sweep := rfl
@[simp] theorem State.modSession_churn : (s.modSession a f).churn = s.churn := rfl
@[simp] theorem State.modSession_reportQueue : (s.modSession a f).reportQueue = s.reportQueue := rfl
@[simp] theorem State.modSession_management : (s.modSession a f).management = s.management := rfl
@[simp] theorem State.modSession_agentLinks : (s.modSession a f).agentLinks = s.agentLinks := rfl
@[simp] theorem State.modSession_mgmtLink : (s.modSession a f).mgmtLink = s.mgmtLink := rfl
@[simp] theorem State.modSession_pending : (s.modSession a f).pending = s.pending := rfl

end

/-! ## `State.modLink`, field by field -/

section

variable (s : State) (a : AgentId) (f : AgentLink → AgentLink)

@[simp] theorem State.modLink_timeBase : (s.modLink a f).timeBase = s.timeBase := rfl
@[simp] theorem State.modLink_grantTable : (s.modLink a f).grantTable = s.grantTable := rfl
@[simp] theorem State.modLink_waitList : (s.modLink a f).waitList = s.waitList := rfl
@[simp] theorem State.modLink_sendLists : (s.modLink a f).sendLists = s.sendLists := rfl
@[simp] theorem State.modLink_sessions : (s.modLink a f).sessions = s.sessions := rfl
@[simp] theorem State.modLink_sweep : (s.modLink a f).sweep = s.sweep := rfl
@[simp] theorem State.modLink_churn : (s.modLink a f).churn = s.churn := rfl
@[simp] theorem State.modLink_reportQueue : (s.modLink a f).reportQueue = s.reportQueue := rfl
@[simp] theorem State.modLink_management : (s.modLink a f).management = s.management := rfl
@[simp] theorem State.modLink_agentLinks : (s.modLink a f).agentLinks = s.agentLinks.modify a f := rfl
@[simp] theorem State.modLink_mgmtLink : (s.modLink a f).mgmtLink = s.mgmtLink := rfl
@[simp] theorem State.modLink_pending : (s.modLink a f).pending = s.pending := rfl

end

/-! ## `State.modSendList`, field by field -/

section

variable (s : State) (a : AgentId) (f : List RecallMessage → List RecallMessage)

@[simp] theorem State.modSendList_timeBase : (s.modSendList a f).timeBase = s.timeBase := rfl
@[simp] theorem State.modSendList_grantTable : (s.modSendList a f).grantTable = s.grantTable := rfl
@[simp] theorem State.modSendList_waitList : (s.modSendList a f).waitList = s.waitList := rfl
@[simp] theorem State.modSendList_sendLists : (s.modSendList a f).sendLists = s.sendLists.modify a f := rfl
@[simp] theorem State.modSendList_sessions : (s.modSendList a f).sessions = s.sessions := rfl
@[simp] theorem State.modSendList_sweep : (s.modSendList a f).sweep = s.sweep := rfl
@[simp] theorem State.modSendList_churn : (s.modSendList a f).churn = s.churn := rfl
@[simp] theorem State.modSendList_reportQueue : (s.modSendList a f).reportQueue = s.reportQueue := rfl
@[simp] theorem State.modSendList_management : (s.modSendList a f).management = s.management := rfl
@[simp] theorem State.modSendList_agentLinks : (s.modSendList a f).agentLinks = s.agentLinks := rfl
@[simp] theorem State.modSendList_mgmtLink : (s.modSendList a f).mgmtLink = s.mgmtLink := rfl
@[simp] theorem State.modSendList_pending : (s.modSendList a f).pending = s.pending := rfl

end

/-! ## `State.modMember`, field by field -/

section

variable (s : State) (a : AgentId) (f : ChurnMember → ChurnMember)

@[simp] theorem State.modMember_timeBase : (s.modMember a f).timeBase = s.timeBase := rfl
@[simp] theorem State.modMember_grantTable : (s.modMember a f).grantTable = s.grantTable := rfl
@[simp] theorem State.modMember_waitList : (s.modMember a f).waitList = s.waitList := rfl
@[simp] theorem State.modMember_sendLists : (s.modMember a f).sendLists = s.sendLists := rfl
@[simp] theorem State.modMember_sessions : (s.modMember a f).sessions = s.sessions := rfl
@[simp] theorem State.modMember_sweep : (s.modMember a f).sweep = s.sweep := rfl
@[simp] theorem State.modMember_churn : (s.modMember a f).churn =
    { s.churn with members := s.churn.members.modify a f } := rfl
@[simp] theorem State.modMember_reportQueue : (s.modMember a f).reportQueue = s.reportQueue := rfl
@[simp] theorem State.modMember_management : (s.modMember a f).management = s.management := rfl
@[simp] theorem State.modMember_agentLinks : (s.modMember a f).agentLinks = s.agentLinks := rfl
@[simp] theorem State.modMember_mgmtLink : (s.modMember a f).mgmtLink = s.mgmtLink := rfl
@[simp] theorem State.modMember_pending : (s.modMember a f).pending = s.pending := rfl

end

/-! ## `State.modMgmt`, field by field -/

section

variable (s : State) (f : MgmtLink → MgmtLink)

@[simp] theorem State.modMgmt_timeBase : (s.modMgmt f).timeBase = s.timeBase := rfl
@[simp] theorem State.modMgmt_grantTable : (s.modMgmt f).grantTable = s.grantTable := rfl
@[simp] theorem State.modMgmt_waitList : (s.modMgmt f).waitList = s.waitList := rfl
@[simp] theorem State.modMgmt_sendLists : (s.modMgmt f).sendLists = s.sendLists := rfl
@[simp] theorem State.modMgmt_sessions : (s.modMgmt f).sessions = s.sessions := rfl
@[simp] theorem State.modMgmt_sweep : (s.modMgmt f).sweep = s.sweep := rfl
@[simp] theorem State.modMgmt_churn : (s.modMgmt f).churn = s.churn := rfl
@[simp] theorem State.modMgmt_reportQueue : (s.modMgmt f).reportQueue = s.reportQueue := rfl
@[simp] theorem State.modMgmt_management : (s.modMgmt f).management = s.management := rfl
@[simp] theorem State.modMgmt_agentLinks : (s.modMgmt f).agentLinks = s.agentLinks := rfl
@[simp] theorem State.modMgmt_mgmtLink : (s.modMgmt f).mgmtLink = f s.mgmtLink := rfl
@[simp] theorem State.modMgmt_pending : (s.modMgmt f).pending = s.pending := rfl

end

/-! ## `State.setRecords`, field by field -/

section

variable (s : State) (l : List GrantRecord)

@[simp] theorem State.setRecords_timeBase : (s.setRecords l).timeBase = s.timeBase := rfl
@[simp] theorem State.setRecords_grantTable : (s.setRecords l).grantTable = { s.grantTable with records := l } := rfl
@[simp] theorem State.setRecords_waitList : (s.setRecords l).waitList = s.waitList := rfl
@[simp] theorem State.setRecords_sendLists : (s.setRecords l).sendLists = s.sendLists := rfl
@[simp] theorem State.setRecords_sessions : (s.setRecords l).sessions = s.sessions := rfl
@[simp] theorem State.setRecords_sweep : (s.setRecords l).sweep = s.sweep := rfl
@[simp] theorem State.setRecords_churn : (s.setRecords l).churn = s.churn := rfl
@[simp] theorem State.setRecords_reportQueue : (s.setRecords l).reportQueue = s.reportQueue := rfl
@[simp] theorem State.setRecords_management : (s.setRecords l).management = s.management := rfl
@[simp] theorem State.setRecords_agentLinks : (s.setRecords l).agentLinks = s.agentLinks := rfl
@[simp] theorem State.setRecords_mgmtLink : (s.setRecords l).mgmtLink = s.mgmtLink := rfl
@[simp] theorem State.setRecords_pending : (s.setRecords l).pending = s.pending := rfl

end

/-! ## `State.setWaitList`, field by field -/

section

variable (s : State) (l : List WaitEntry)

@[simp] theorem State.setWaitList_timeBase : (s.setWaitList l).timeBase = s.timeBase := rfl
@[simp] theorem State.setWaitList_grantTable : (s.setWaitList l).grantTable = s.grantTable := rfl
@[simp] theorem State.setWaitList_waitList : (s.setWaitList l).waitList = l := rfl
@[simp] theorem State.setWaitList_sendLists : (s.setWaitList l).sendLists = s.sendLists := rfl
@[simp] theorem State.setWaitList_sessions : (s.setWaitList l).sessions = s.sessions := rfl
@[simp] theorem State.setWaitList_sweep : (s.setWaitList l).sweep = s.sweep := rfl
@[simp] theorem State.setWaitList_churn : (s.setWaitList l).churn = s.churn := rfl
@[simp] theorem State.setWaitList_reportQueue : (s.setWaitList l).reportQueue = s.reportQueue := rfl
@[simp] theorem State.setWaitList_management : (s.setWaitList l).management = s.management := rfl
@[simp] theorem State.setWaitList_agentLinks : (s.setWaitList l).agentLinks = s.agentLinks := rfl
@[simp] theorem State.setWaitList_mgmtLink : (s.setWaitList l).mgmtLink = s.mgmtLink := rfl
@[simp] theorem State.setWaitList_pending : (s.setWaitList l).pending = s.pending := rfl

end

/-! ## `State.report`, field by field -/

section

variable (s : State) (r : Report)

@[simp] theorem State.report_timeBase : (s.report r).timeBase = s.timeBase := rfl
@[simp] theorem State.report_grantTable : (s.report r).grantTable = s.grantTable := rfl
@[simp] theorem State.report_waitList : (s.report r).waitList = s.waitList := rfl
@[simp] theorem State.report_sendLists : (s.report r).sendLists = s.sendLists := rfl
@[simp] theorem State.report_sessions : (s.report r).sessions = s.sessions := rfl
@[simp] theorem State.report_sweep : (s.report r).sweep = s.sweep := rfl
@[simp] theorem State.report_churn : (s.report r).churn = s.churn := rfl
@[simp] theorem State.report_reportQueue : (s.report r).reportQueue = s.reportQueue.append r := rfl
@[simp] theorem State.report_management : (s.report r).management = s.management := rfl
@[simp] theorem State.report_agentLinks : (s.report r).agentLinks = s.agentLinks := rfl
@[simp] theorem State.report_mgmtLink : (s.report r).mgmtLink = s.mgmtLink := rfl
@[simp] theorem State.report_pending : (s.report r).pending = s.pending := rfl

end

/-! ## `State.modRecord`, field by field -/

section

variable (s : State) (n : Nat) (f : GrantRecord → GrantRecord)

@[simp] theorem State.modRecord_timeBase : (s.modRecord n f).timeBase = s.timeBase := rfl
@[simp] theorem State.modRecord_grantTable : (s.modRecord n f).grantTable =
    { s.grantTable with records := s.grantTable.records.map fun r => if r.slot = n then f r else r } := rfl
@[simp] theorem State.modRecord_waitList : (s.modRecord n f).waitList = s.waitList := rfl
@[simp] theorem State.modRecord_sendLists : (s.modRecord n f).sendLists = s.sendLists := rfl
@[simp] theorem State.modRecord_sessions : (s.modRecord n f).sessions = s.sessions := rfl
@[simp] theorem State.modRecord_sweep : (s.modRecord n f).sweep = s.sweep := rfl
@[simp] theorem State.modRecord_churn : (s.modRecord n f).churn = s.churn := rfl
@[simp] theorem State.modRecord_reportQueue : (s.modRecord n f).reportQueue = s.reportQueue := rfl
@[simp] theorem State.modRecord_management : (s.modRecord n f).management = s.management := rfl
@[simp] theorem State.modRecord_agentLinks : (s.modRecord n f).agentLinks = s.agentLinks := rfl
@[simp] theorem State.modRecord_mgmtLink : (s.modRecord n f).mgmtLink = s.mgmtLink := rfl
@[simp] theorem State.modRecord_pending : (s.modRecord n f).pending = s.pending := rfl

end

/-! ## One agent's part, after a change -/

section
variable (s : State) (a b : AgentId)

theorem State.modSession_session (f : Session → Session) :
    (s.modSession a f).session b = if b = a then f (s.session b) else s.session b := PerAgent.get_modify ..

@[simp] theorem State.modSession_session_self (f : Session → Session) :
    (s.modSession a f).session a = f (s.session a) := PerAgent.get_modify_self ..

theorem State.modLink_link (f : AgentLink → AgentLink) :
    (s.modLink a f).link b = if b = a then f (s.link b) else s.link b := PerAgent.get_modify ..

@[simp] theorem State.modLink_link_self (f : AgentLink → AgentLink) :
    (s.modLink a f).link a = f (s.link a) := PerAgent.get_modify_self ..

theorem State.modSendList_sendList (f : List RecallMessage → List RecallMessage) :
    (s.modSendList a f).sendList b = if b = a then f (s.sendList b) else s.sendList b := PerAgent.get_modify ..

@[simp] theorem State.modSendList_sendList_self (f : List RecallMessage → List RecallMessage) :
    (s.modSendList a f).sendList a = f (s.sendList a) := PerAgent.get_modify_self ..

theorem State.modMember_member (f : ChurnMember → ChurnMember) :
    (s.modMember a f).member b = if b = a then f (s.member b) else s.member b := PerAgent.get_modify ..

@[simp] theorem State.modMember_member_self (f : ChurnMember → ChurnMember) :
    (s.modMember a f).member a = f (s.member a) := PerAgent.get_modify_self ..

end

/-! ## One agent's part and the parameters, untouched by changes elsewhere -/

section
variable (s : State) (b : AgentId)

@[simp] theorem State.modSession_link (a : AgentId) (f : Session → Session) :
    (s.modSession a f).link b = s.link b := rfl
@[simp] theorem State.modSession_sendList (a : AgentId) (f : Session → Session) :
    (s.modSession a f).sendList b = s.sendList b := rfl
@[simp] theorem State.modSession_member (a : AgentId) (f : Session → Session) :
    (s.modSession a f).member b = s.member b := rfl
@[simp] theorem State.modSession_params (a : AgentId) (f : Session → Session) :
    (s.modSession a f).params = s.params := rfl
@[simp] theorem State.modLink_session (a : AgentId) (f : AgentLink → AgentLink) :
    (s.modLink a f).session b = s.session b := rfl
@[simp] theorem State.modLink_sendList (a : AgentId) (f : AgentLink → AgentLink) :
    (s.modLink a f).sendList b = s.sendList b := rfl
@[simp] theorem State.modLink_member (a : AgentId) (f : AgentLink → AgentLink) :
    (s.modLink a f).member b = s.member b := rfl
@[simp] theorem State.modLink_params (a : AgentId) (f : AgentLink → AgentLink) :
    (s.modLink a f).params = s.params := rfl
@[simp] theorem State.modSendList_session (a : AgentId) (f : List RecallMessage → List RecallMessage) :
    (s.modSendList a f).session b = s.session b := rfl
@[simp] theorem State.modSendList_link (a : AgentId) (f : List RecallMessage → List RecallMessage) :
    (s.modSendList a f).link b = s.link b := rfl
@[simp] theorem State.modSendList_member (a : AgentId) (f : List RecallMessage → List RecallMessage) :
    (s.modSendList a f).member b = s.member b := rfl
@[simp] theorem State.modSendList_params (a : AgentId) (f : List RecallMessage → List RecallMessage) :
    (s.modSendList a f).params = s.params := rfl
@[simp] theorem State.modMember_session (a : AgentId) (f : ChurnMember → ChurnMember) :
    (s.modMember a f).session b = s.session b := rfl
@[simp] theorem State.modMember_link (a : AgentId) (f : ChurnMember → ChurnMember) :
    (s.modMember a f).link b = s.link b := rfl
@[simp] theorem State.modMember_sendList (a : AgentId) (f : ChurnMember → ChurnMember) :
    (s.modMember a f).sendList b = s.sendList b := rfl
@[simp] theorem State.modMember_params (a : AgentId) (f : ChurnMember → ChurnMember) :
    (s.modMember a f).params = s.params := rfl
@[simp] theorem State.modMgmt_session (f : MgmtLink → MgmtLink) : (s.modMgmt f).session b = s.session b := rfl
@[simp] theorem State.modMgmt_link (f : MgmtLink → MgmtLink) : (s.modMgmt f).link b = s.link b := rfl
@[simp] theorem State.modMgmt_sendList (f : MgmtLink → MgmtLink) : (s.modMgmt f).sendList b = s.sendList b := rfl
@[simp] theorem State.modMgmt_member (f : MgmtLink → MgmtLink) : (s.modMgmt f).member b = s.member b := rfl
@[simp] theorem State.modMgmt_params (f : MgmtLink → MgmtLink) : (s.modMgmt f).params = s.params := rfl
@[simp] theorem State.setRecords_session (l : List GrantRecord) : (s.setRecords l).session b = s.session b := rfl
@[simp] theorem State.setRecords_link (l : List GrantRecord) : (s.setRecords l).link b = s.link b := rfl
@[simp] theorem State.setRecords_sendList (l : List GrantRecord) : (s.setRecords l).sendList b = s.sendList b := rfl
@[simp] theorem State.setRecords_member (l : List GrantRecord) : (s.setRecords l).member b = s.member b := rfl
@[simp] theorem State.setRecords_params (l : List GrantRecord) : (s.setRecords l).params = s.params := rfl
@[simp] theorem State.setWaitList_session (l : List WaitEntry) : (s.setWaitList l).session b = s.session b := rfl
@[simp] theorem State.setWaitList_link (l : List WaitEntry) : (s.setWaitList l).link b = s.link b := rfl
@[simp] theorem State.setWaitList_sendList (l : List WaitEntry) : (s.setWaitList l).sendList b = s.sendList b := rfl
@[simp] theorem State.setWaitList_member (l : List WaitEntry) : (s.setWaitList l).member b = s.member b := rfl
@[simp] theorem State.setWaitList_params (l : List WaitEntry) : (s.setWaitList l).params = s.params := rfl
@[simp] theorem State.report_session (r : Report) : (s.report r).session b = s.session b := rfl
@[simp] theorem State.report_link (r : Report) : (s.report r).link b = s.link b := rfl
@[simp] theorem State.report_sendList (r : Report) : (s.report r).sendList b = s.sendList b := rfl
@[simp] theorem State.report_member (r : Report) : (s.report r).member b = s.member b := rfl
@[simp] theorem State.report_params (r : Report) : (s.report r).params = s.params := rfl
@[simp] theorem State.modRecord_session (n : Nat) (f : GrantRecord → GrantRecord) :
    (s.modRecord n f).session b = s.session b := rfl
@[simp] theorem State.modRecord_link (n : Nat) (f : GrantRecord → GrantRecord) :
    (s.modRecord n f).link b = s.link b := rfl
@[simp] theorem State.modRecord_sendList (n : Nat) (f : GrantRecord → GrantRecord) :
    (s.modRecord n f).sendList b = s.sendList b := rfl
@[simp] theorem State.modRecord_member (n : Nat) (f : GrantRecord → GrantRecord) :
    (s.modRecord n f).member b = s.member b := rfl
@[simp] theorem State.modRecord_params (n : Nat) (f : GrantRecord → GrantRecord) :
    (s.modRecord n f).params = s.params := rfl

end

end Sys2Proof.Machine
end

