-- ==== Sys2Proof/Laws/Removal.lean ====
section
/-!
SUPPORT. What a removal, a downgrade, a session's end, a fencing and a churn outcome do, said once for each.
-/

namespace Sys2Proof.Machine

open Sys2Proof.Safety

/-- A slot names one record (R11). -/
theorem slot_unique : ∀ {l : List GrantRecord}, l.Pairwise (fun r q => r.slot ≠ q.slot) → ∀ {q r : GrantRecord},
    q ∈ l → r ∈ l → q.slot = r.slot → q = r := by
  intro l
  induction l with
  | nil => intro _ q r hq; simp at hq
  | cons x l ih =>
    intro h q r hq hr he
    obtain ⟨h1, h2⟩ := List.pairwise_cons.mp h
    rcases List.mem_cons.mp hq with rfl | hq'
    · rcases List.mem_cons.mp hr with rfl | hr'
      · rfl
      · exact absurd he (h1 r hr')
    · rcases List.mem_cons.mp hr with rfl | hr'
      · exact absurd he.symm (h1 q hq')
      · exact ih h2 hq' hr' he

/-! ## The sweep's share (R110, R113) -/

/-- A pending record leaves the set once the table holds `left`. -/
theorem resolvePending_eq (s : State) (how : Resolution) (left : List GrantRecord) :
    (s.setRecords left).resolvePending how =
      { s with
        grantTable := { s.grantTable with records := left }
        sweep := (resolvedSweep s how 1 left).1
        reportQueue := (resolvedSweep s how 1 left).2 } := by
  unfold State.resolvePending State.completeIfDrained State.modSweep resolvedSweep State.endSweep State.pendingEmpty
  cases hs : s.sweep with
  | none => simp [hs, State.setRecords]
  | some w =>
    obtain ⟨i, k, g, m, p, t⟩ := w
    cases p with
    | scanning c => simp [hs, State.setRecords]
    | draining =>
      simp only [State.setRecords_sweep, hs, Option.map_some, Nat.zero_lt_one, true_and]
      split
      · rename_i h
        rw [if_pos (by simpa using h)]
        simp [State.setRecords, State.report]
      · rename_i h
        rw [if_neg (by simpa using h)]
        simp [State.setRecords]

theorem resolvedSweep_zero (s : State) (how : Resolution) (left : List GrantRecord) :
    resolvedSweep s how 0 left = (s.sweep, s.reportQueue) := by
  unfold resolvedSweep
  cases hs : s.sweep <;> simp

/-- Two departures one after the other: what the second leaves is what both together leave, when the records the second
takes away are those of `left` that `more` lacks. -/
theorem resolvedSweep_succ (s : State) (how : Resolution) (n : Nat) (left more : List GrantRecord)
    (hsub : (left.all fun r => !r.sweepPending) = true → (more.all fun r => !r.sweepPending) = true ∧ n = 0)
    (hzero : n = 0 → (more.all fun r => !r.sweepPending) = true → (left.all fun r => !r.sweepPending) = true) :
    resolvedSweep { s with sweep := (resolvedSweep s how 1 left).1, reportQueue := (resolvedSweep s how 1 left).2 }
      how n more = resolvedSweep s how (n + 1) more := by
  unfold resolvedSweep
  cases hs : s.sweep with
  | none => simp
  | some w =>
    simp only [Nat.zero_lt_one, true_and]
    by_cases hd : w.phase = .draining
    · by_cases hl : (left.all fun r => !r.sweepPending) = true
      · obtain ⟨hm, rfl⟩ := hsub hl
        rw [if_pos ⟨hd, hl⟩]
        simp [hd]
        simpa using hm
      · rw [if_neg (fun h => hl h.2)]
        by_cases hm : (more.all fun r => !r.sweepPending) = true
        · have hn : 0 < n := Nat.pos_of_ne_zero fun h0 => hl (hzero h0 hm)
          simp only [hd, hm, hn, and_self, if_true, Nat.succ_pos, Function.iterate_succ, Function.comp,
            Function.iterate_zero, id]
        · simp [hd, hm]
    · simp [hd]

/-! ## Removal (R21) -/

/-- Steps 1 to 3 of R21, whatever the cause. -/
theorem detachRecord_eq (s : State) (cause : RemovalCause) (r : GrantRecord) :
    s.detachRecord cause r =
      { s with
        grantTable := { s.grantTable with records := s.grantTable.records.filter fun q => q.slot ≠ r.slot }
        sendLists := withdrawn s r r.recallRecord.isSome
        sweep := (resolvedSweep s cause.resolution (if r.sweepPending then 1 else 0)
          (s.grantTable.records.filter fun q => q.slot ≠ r.slot)).1
        reportQueue := (resolvedSweep s cause.resolution (if r.sweepPending then 1 else 0)
          (s.grantTable.records.filter fun q => q.slot ≠ r.slot)).2 } := by
  have hw : (if r.recallRecord.isSome then s.withdrawMessage r else s) =
      { s with sendLists := withdrawn s r r.recallRecord.isSome } := by
    unfold withdrawn
    split
    · simp [State.withdrawMessage, State.modSendList, PerAgent.modify, removeMessage, State.sendList]
      congr
    · rfl
  unfold State.detachRecord
  simp only [hw]
  have hf : (s.grantTable.records.filter fun q => q.slot != r.slot) =
      s.grantTable.records.filter fun q => decide (q.slot ≠ r.slot) := by
    congr 1; funext q; by_cases h : q.slot = r.slot <;> simp [h]
  rw [hf]
  split
  · rename_i hp
    rw [resolvePending_eq]
    simp [resolvedSweep]
  · simp [resolvedSweep_zero, State.setRecords]

theorem release_detach_eq (s : State) (r : GrantRecord) : s.detachRecord .release r = released s r := by
  rw [detachRecord_eq]; rfl

theorem removeRecord_release (s : State) (r : GrantRecord) :
    s.removeRecord .release r =
      ((released s r).recordOutcome r.holder (releaseOutcome r)).dropConvert r.holder r.slot .grantLost := by
  simp [State.removeRecord, release_detach_eq]

/-- A LEAVE's or a fencing's removals of some records of agent `a`, one after the other. -/
theorem foldl_detach (a : AgentId) (cause : RemovalCause) :
    ∀ (l : List GrantRecord) (s : State), (∀ r ∈ l, r.holder = a) → (∀ r ∈ l, r ∈ s.grantTable.records) →
      l.Pairwise (fun r q => r.slot ≠ q.slot) →
      s.grantTable.records.Pairwise (fun r q => r.slot ≠ q.slot) →
      ∃ list, l.foldl (fun t r => t.detachRecord cause r) s =
        { s with
          grantTable :=
            { s.grantTable with
              records := s.grantTable.records.filter fun q => decide (∀ r ∈ l, q.slot ≠ r.slot) }
          sendLists := s.sendLists.set a list
          sweep := (resolvedSweep s cause.resolution (l.countP fun r => r.sweepPending)
            (s.grantTable.records.filter fun q => decide (∀ r ∈ l, q.slot ≠ r.slot))).1
          reportQueue := (resolvedSweep s cause.resolution (l.countP fun r => r.sweepPending)
            (s.grantTable.records.filter fun q => decide (∀ r ∈ l, q.slot ≠ r.slot))).2 } := by
  intro l
  induction l with
  | nil =>
    intro s _ _ _ _
    exact ⟨s.sendLists.get a, by simp [resolvedSweep_zero]⟩
  | cons r l ih =>
    intro s hh hm hp hq
    have hra : r.holder = a := hh r (by simp)
    have hlr : ∀ q ∈ l, r.slot ≠ q.slot := (List.pairwise_cons.mp hp).1
    obtain ⟨list, hl⟩ := ih (s.detachRecord cause r) (fun q h => hh q (by simp [h]))
      (by
        intro q h
        rw [detachRecord_eq]
        simp only [List.mem_filter]
        exact ⟨hm q (by simp [h]), by simpa using (hlr q h).symm⟩)
      (List.pairwise_cons.mp hp).2
      (by rw [detachRecord_eq]; exact hq.filter _)
    refine ⟨list, ?_⟩
    rw [List.foldl_cons, hl]
    have hrec : (s.detachRecord cause r).grantTable.records =
        s.grantTable.records.filter fun q => decide (q.slot ≠ r.slot) := by rw [detachRecord_eq]
    have hfil : ((s.detachRecord cause r).grantTable.records.filter fun q => decide (∀ x ∈ l, q.slot ≠ x.slot)) =
        s.grantTable.records.filter fun q => decide (∀ x ∈ r :: l, q.slot ≠ x.slot) := by
      rw [hrec, List.filter_filter]
      congr 1; funext q
      simp [Bool.and_comm]
    have hsweep : resolvedSweep (s.detachRecord cause r) cause.resolution (l.countP fun x => x.sweepPending)
        (s.grantTable.records.filter fun q => decide (∀ x ∈ r :: l, q.slot ≠ x.slot)) =
        resolvedSweep s cause.resolution ((r :: l).countP fun x => x.sweepPending)
        (s.grantTable.records.filter fun q => decide (∀ x ∈ r :: l, q.slot ≠ x.slot)) := by
      have hin : ∀ q ∈ l, q ∈ s.grantTable.records.filter fun q => decide (q.slot ≠ r.slot) := fun q h =>
        List.mem_filter.mpr ⟨hm q (by simp [h]), by simpa using (hlr q h).symm⟩
      rw [detachRecord_eq]
      by_cases hpend : r.sweepPending = true
      · rw [List.countP_cons_of_pos (by simpa using hpend), if_pos hpend]
        have hcongr : ∀ (u v : State) (n : Nat) (m : List GrantRecord), u.sweep = v.sweep →
            u.reportQueue = v.reportQueue →
            resolvedSweep u cause.resolution n m = resolvedSweep v cause.resolution n m := by
          intro u v n m h1 h2; simp only [resolvedSweep, h1, h2]
        rw [← resolvedSweep_succ s cause.resolution (l.countP fun x => x.sweepPending)
          (s.grantTable.records.filter fun q => decide (q.slot ≠ r.slot))]
        · exact hcongr _ _ _ _ rfl rfl
        · intro hall
          rw [List.all_eq_true] at hall
          constructor
          · rw [List.all_eq_true]
            intro q hq'
            apply hall
            rw [List.mem_filter] at hq' ⊢
            refine ⟨hq'.1, ?_⟩
            have := hq'.2
            simp only [List.mem_cons, forall_eq_or_imp, decide_eq_true_eq] at this
            simpa using this.1
          · rw [List.countP_eq_zero]
            intro q h
            simpa using hall q (hin q h)
        · intro h0 hall
          rw [List.countP_eq_zero] at h0
          rw [List.all_eq_true] at hall ⊢
          intro q hq'
          by_cases hql : ∃ x ∈ l, q.slot = x.slot
          · obtain ⟨x, hx, hs⟩ := hql
            have hqx : q = x := slot_unique hq (List.mem_filter.mp hq').1 (hm x (by simp [hx])) hs
            subst hqx
            simpa using h0 q hx
          · apply hall
            rw [List.mem_filter] at hq' ⊢
            refine ⟨hq'.1, ?_⟩
            have h2 : q.slot ≠ r.slot := by simpa using hq'.2
            simp only [List.mem_cons, forall_eq_or_imp, decide_eq_true_eq]
            exact ⟨h2, fun x hx he => hql ⟨x, hx, he⟩⟩
      · rw [List.countP_cons_of_neg (by simpa using hpend), if_neg hpend]
        simp only [resolvedSweep_zero]
        unfold resolvedSweep
        rfl
    rw [hfil, hsweep]
    rw [detachRecord_eq]
    simp only [withdrawn, hra]
    split <;> simp

/-- The records an agent's session end leaves, as the filter that the removals make. -/
theorem filter_recordsOf (s : State) (a : AgentId)
    (hq : s.grantTable.records.Pairwise (fun r q => r.slot ≠ q.slot)) :
    (s.grantTable.records.filter fun q => decide (∀ r ∈ s.recordsOf a, q.slot ≠ r.slot)) = recordsLeft s a := by
  unfold recordsLeft
  apply List.filter_congr
  intro q hqm
  rw [decide_eq_decide]
  constructor
  · intro h hh
    exact h q (List.mem_filter.mpr ⟨hqm, by simpa using hh⟩) rfl
  · intro h r hr he
    obtain ⟨hr1, hr2⟩ := List.mem_filter.mp hr
    have : q = r := slot_unique hq hqm hr1 he
    exact h (this ▸ by simpa using hr2)

/-- Every record of agent `a` removed by a LEAVE or a fencing (R25). -/
theorem removeRecords_eq (s : State) (cause : RemovalCause) (a : AgentId) (hc : cause ≠ .release)
    (hq : s.grantTable.records.Pairwise (fun r q => r.slot ≠ q.slot)) :
    ∃ list, s.removeRecords cause a =
      { s with
        grantTable := { s.grantTable with records := recordsLeft s a }
        sendLists := s.sendLists.set a list
        sweep := (resolvedSweep s cause.resolution (pendingOf s a) (recordsLeft s a)).1
        reportQueue := (resolvedSweep s cause.resolution (pendingOf s a) (recordsLeft s a)).2 } := by
  obtain ⟨list, h⟩ := foldl_detach a cause (s.recordsOf a) s
    (fun r h => by simpa [State.recordsOf] using (List.mem_filter.mp h).2)
    (fun r h => (List.mem_filter.mp h).1) (hq.filter _) hq
  refine ⟨list, ?_⟩
  have : s.removeRecords cause a = (s.recordsOf a).foldl (fun t r => t.detachRecord cause r) s := by
    unfold State.removeRecords
    congr 1
    funext t r
    cases cause with
    | release => exact absurd rfl hc
    | leave => rfl
    | fencing => rfl
  rw [this, h, filter_recordsOf s a hq]
  rfl

/-! ## Refusals in order -/

/-- The same refusal placed for some entries of one agent, in order. -/
theorem refuseEntries_eq (a : AgentId) (code : RefusalCode) :
    ∀ (l : List WaitEntry) (s : State), (∀ e ∈ l, e.agent = a) →
      s.refuseEntries l code =
        { s with
          agentLinks := s.agentLinks.set a
            { s.link a with
              replies :=
                { reserved := (s.link a).replies.reserved - l.length
                  filled := (s.link a).replies.filled ++
                    l.map fun e => { tag := e.tag, reply := .refused code } } } } := by
  intro l
  induction l with
  | nil =>
    intro s _
    have : s.agentLinks.set a (s.link a) = s.agentLinks := PerAgent.set_get ..
    simp only [State.refuseEntries, List.foldl_nil, List.length_nil, Nat.sub_zero, List.map_nil, List.append_nil, this]
  | cons e l ih =>
    intro s h
    have he : e.agent = a := h e (by simp)
    have := ih (s.refuse e.agent e.tag code) fun x hx => h x (by simp [hx])
    unfold State.refuseEntries at this ⊢
    rw [List.foldl_cons, this, he]
    simp [State.refuse, State.placeReply, State.modLink, PerAgent.modify, State.link, ReplyArea.place, Nat.sub_sub,
      Nat.add_comm]

/-! ## The end of a session and fencing (R83, R85, R93) -/

theorem endSession_eq (s : State) (a : AgentId)
    (hq : s.grantTable.records.Pairwise (fun r q => r.slot ≠ q.slot)) : s.endSession a = sessionOver s a := by
  unfold State.endSession
  rw [refuseEntries_eq a .sessionEnded (s.entriesOf a) (s.removeEntries a)
    (fun e h => by simpa [State.entriesOf] using (List.mem_filter.mp h).2)]
  obtain ⟨list, h⟩ := removeRecords_eq
    { s.removeEntries a with
      agentLinks := (s.removeEntries a).agentLinks.set a
        { (s.removeEntries a).link a with
          replies :=
            { reserved := ((s.removeEntries a).link a).replies.reserved - (s.entriesOf a).length
              filled := ((s.removeEntries a).link a).replies.filled ++
                (s.entriesOf a).map fun e => { tag := e.tag, reply := .refused .sessionEnded } } } }
    .leave a (by simp) hq
  simp only [h]
  have hf : (s.waitList.filter fun e => e.agent != a) = s.waitList.filter fun e => decide (e.agent ≠ a) := by
    congr 1; funext e; by_cases h : e.agent = a <;> simp [h]
  simp only [State.purgeSendList, State.modSendList, PerAgent.modify, PerAgent.set_set, State.removeEntries,
    State.setWaitList, hf]
  rfl

theorem fenceSteps_eq (s : State) (a : AgentId) (cause : FenceCause)
    (hq : s.grantTable.records.Pairwise (fun r q => r.slot ≠ q.slot)) : s.fenceSteps a cause = fenced s a cause := by
  unfold State.fenceSteps
  obtain ⟨list, h⟩ := removeRecords_eq
    ((s.removeEntries a).modLink a fun l => { l with replies := .empty }) .fencing a (by simp) hq
  simp only [h]
  have hf : (s.waitList.filter fun e => e.agent != a) = s.waitList.filter fun e => decide (e.agent ≠ a) := by
    congr 1; funext e; by_cases h : e.agent = a <;> simp [h]
  simp only [State.purgeSendList, State.modSendList, PerAgent.modify, PerAgent.set_set, State.removeEntries,
    State.setWaitList, hf, State.modLink, State.modSession, State.clearChurn, State.modMember, State.placeNotice,
    State.report, PerAgent.get_set_self, Ingress.discardAll, AgentCounters.addFencing, ReplyArea.empty]
  rfl

/-- A fencing is its nine steps and one walk. -/
theorem fence_eq (s : State) (a : AgentId) (cause : FenceCause)
    (hq : s.grantTable.records.Pairwise (fun r q => r.slot ≠ q.slot)) :
    s.fence a cause = (fenced s a cause).reevaluate := by rw [State.fence, fenceSteps_eq s a cause hq]

/-! ## Churn outcomes (R120 to R122) -/

theorem appendOutcome_eq (s : State) (a : AgentId) (o : ChurnOutcome) :
    appendOutcome (s.settings a).window (s.member a).window o = windowWith s a o := by
  unfold appendOutcome windowWith
  simp only
  split <;> split <;> first | rfl | omega

theorem recordOutcome_eq (s : State) (a : AgentId) (o : ChurnOutcome) : s.recordOutcome a o = churned s a o := by
  unfold State.recordOutcome churned
  cases he : (s.settings a).enable with
  | false => simp
  | true =>
    simp only [if_true, Bool.true_eq_false, if_false]
    have hset : ∀ f, (s.modMember a f).settings a = s.settings a := fun _ => rfl
    unfold State.testAlarm
    rw [hset]
    simp only [State.modMember_member_self, appendOutcome_eq]
    by_cases hr : raises s a o = true
    · have hr' : (s.settings a).threshold ≤ recalledCount (windowWith s a o) ∧ (s.member a).alarm = false := by
        simpa [raises, recalledCount] using hr
      rw [if_pos hr']
      unfold State.raiseAlarm
      simp only [State.modMember_member_self, hr, hr'.2, Bool.true_and, if_true, Bool.or_true]
      have hs2 : ((s.modMember a fun m => { m with window := appendOutcome (s.settings a).window m.window o }).settings
          a) = s.settings a := rfl
      simp only [hset]
      split
      · rename_i hn
        simp only [appendOutcome_eq, State.placeNotice, State.modLink, State.report, State.modMember,
          PerAgent.modify_modify]
        simp [PerAgent.modify, State.link, State.session, recalledCount]
        congr 2
        have := appendOutcome_eq s a o
        simp only [State.settings, State.session, State.member] at this
        simp [this, windowWith, State.settings, State.member, State.session]
      · rename_i hn
        simp only [appendOutcome_eq, State.report, State.modMember, PerAgent.modify_modify]
        simp [PerAgent.modify, State.session, recalledCount]
        congr 2
        have := appendOutcome_eq s a o
        simp only [State.settings, State.session, State.member] at this
        simp [this, windowWith, State.settings, State.member, State.session]
    · have hr' : ¬((s.settings a).threshold ≤ recalledCount (windowWith s a o) ∧ (s.member a).alarm = false) := by
        simpa [raises, recalledCount] using hr
      rw [if_neg hr']
      have hb : raises s a o = false := by simpa using hr
      simp only [hb, Bool.false_and, Bool.or_false, State.modMember, PerAgent.modify]
      congr 3
      · simpa [State.member] using appendOutcome_eq s a o

/-! ## Downgrade (R23) -/

theorem downgradeRecord_eq (s : State) (r : GrantRecord)
    (hr : ∀ q ∈ s.grantTable.records, q.slot = r.slot → q = r) :
    s.downgradeRecord r =
      if r.recallRecord.isSome then (downgraded s r).recordOutcome r.holder .recalled else downgraded s r := by
  have hmain : ∀ u : State, u = downgraded s r →
      (if r.recallRecord.isSome then u.recordOutcome r.holder .recalled else u) =
      if r.recallRecord.isSome then (downgraded s r).recordOutcome r.holder .recalled else downgraded s r := by
    intro u h; rw [h]
  unfold State.downgradeRecord
  apply hmain
  have hmap : (s.grantTable.records.map fun x => if x.slot = r.slot then
      { x with mode := Mode.shared, recallRecord := if wantsDowngrade r then none else x.recallRecord,
               sweepPending := x.sweepPending && !leavesDemote s r } else x) =
      s.grantTable.records.map fun q => if q.slot = r.slot then downgradedRecord s r else q := by
    apply List.map_congr_left
    intro q hq
    split
    · rename_i h; rw [hr q hq h]; rfl
    · rfl
  have h1 : s.modRecord r.slot (fun x =>
      { x with mode := Mode.shared, recallRecord := if wantsDowngrade r then none else x.recallRecord,
               sweepPending := x.sweepPending && !leavesDemote s r }) =
      s.setRecords (s.grantTable.records.map fun q => if q.slot = r.slot then downgradedRecord s r else q) := by
    unfold State.modRecord; rw [hmap]
  change (if leavesDemote s r then
      (if wantsDowngrade r then State.withdrawMessage (s.modRecord r.slot _) r
        else s.modRecord r.slot _).resolvePending .byDowngrade
    else if wantsDowngrade r then State.withdrawMessage (s.modRecord r.slot _) r else s.modRecord r.slot _) = _
  change (if leavesDemote s r then
      (if wantsDowngrade r then State.withdrawMessage (s.modRecord r.slot (fun x =>
      { x with mode := Mode.shared, recallRecord := if wantsDowngrade r then none else x.recallRecord,
               sweepPending := x.sweepPending && !leavesDemote s r })) r
        else s.modRecord r.slot (fun x =>
      { x with mode := Mode.shared, recallRecord := if wantsDowngrade r then none else x.recallRecord,
               sweepPending := x.sweepPending && !leavesDemote s r })).resolvePending .byDowngrade
    else if wantsDowngrade r then State.withdrawMessage (s.modRecord r.slot (fun x =>
      { x with mode := Mode.shared, recallRecord := if wantsDowngrade r then none else x.recallRecord,
               sweepPending := x.sweepPending && !leavesDemote s r })) r else s.modRecord r.slot (fun x =>
      { x with mode := Mode.shared, recallRecord := if wantsDowngrade r then none else x.recallRecord,
               sweepPending := x.sweepPending && !leavesDemote s r })) = _
  rw [h1]
  generalize hleft : (s.grantTable.records.map fun q => if q.slot = r.slot then downgradedRecord s r else q) = left
  have hw : (if wantsDowngrade r then (s.setRecords left).withdrawMessage r else s.setRecords left) =
      ({ s with sendLists := withdrawn s r (wantsDowngrade r) } : State).setRecords left := by
    unfold withdrawn
    split
    · simp [State.withdrawMessage, State.modSendList, PerAgent.modify, removeMessage, State.sendList, State.setRecords]
      congr
    · rfl
  rw [hw]
  unfold downgraded
  simp only [hleft]
  split
  · rename_i hl
    rw [resolvePending_eq]
    simp [resolvedSweep]
  · rename_i hl
    simp [resolvedSweep_zero, State.setRecords]

end Sys2Proof.Machine
end

