-- ==== Sys2Proof/Laws/Taking.lean ====
section
/-!
SUPPORT. What the shared operations of taking and answering do: the session lease, the replies, and the heads of the
three ingress buffers.
-/

namespace Sys2Proof.Machine

open Sys2Proof.Safety

/-! ## Session lease (R87) -/

/-- A frame of the ACTIVE session's epoch renews it. -/
theorem renewLease_active (s : State) (a : AgentId) (h : isActive (s.session a).state = true) :
    s.renewLease a (s.session a).epoch = { s with sessions := s.sessions.set a (renewed s a) } := by
  unfold State.renewLease
  split
  · simp [State.modSession, PerAgent.modify, renewed, State.session]
  · rename_i hs
    cases hx : (s.session a).state <;> simp_all [isActive]

/-- A frame of another epoch, or of an agent that is not ACTIVE, renews nothing. -/
theorem renewLease_other (s : State) (a : AgentId) (epoch : Nat)
    (h : isActive (s.session a).state = true → epoch ≠ (s.session a).epoch) : s.renewLease a epoch = s := by
  unfold State.renewLease
  split
  · rename_i d hd
    rw [if_neg]
    exact h (by simp [hd, isActive])
  · rfl

/-- All a renewal may change is the session's lease deadline. -/
theorem renewLease_cases (s : State) (a : AgentId) (epoch : Nat) :
    s.renewLease a epoch = s ∨
      (isActive (s.session a).state = true ∧ epoch = (s.session a).epoch ∧
        s.renewLease a epoch = { s with sessions := s.sessions.set a (renewed s a) }) := by
  by_cases h : isActive (s.session a).state = true ∧ epoch = (s.session a).epoch
  · right; exact ⟨h.1, h.2, by rw [h.2]; exact renewLease_active s a h.1⟩
  · left; exact renewLease_other s a epoch fun ha he => h ⟨ha, he⟩

/-! ## The heads of the buffers (R140, R141, R157) -/

theorem takeAnswerable_head {s : State} {a : AgentId} {k : AnswerableKind} {f : Frame AnswerableKind}
    {rest : List (Frame AnswerableKind)} (h : AnswerableHead s a k f rest) :
    s.takeAnswerable a k = some (f, s.afterTakingAnswerable a f.epoch) := by
  obtain ⟨h1, h2, h3, h4, h5⟩ := h
  simp [State.takeAnswerable, h1, h2, State.mayTakeAnswerable, h3, ReplyArea.hasFree, h4, h5]

/-- A taking happens only at such a head. -/
theorem takeAnswerable_some {s t : State} {a : AgentId} {k : AnswerableKind} {f : Frame AnswerableKind}
    (h : s.takeAnswerable a k = some (f, t)) :
    (∃ rest, AnswerableHead s a k f rest) ∧ t = s.afterTakingAnswerable a f.epoch := by
  unfold State.takeAnswerable at h
  split at h
  · simp at h
  · rename_i g rest hg
    split at h
    · rename_i hc
      simp only [Option.some.injEq, Prod.mk.injEq] at h
      obtain ⟨rfl, rfl⟩ := h
      simp [State.mayTakeAnswerable, ReplyArea.hasFree] at hc
      exact ⟨⟨rest, hg, hc.1, hc.2.1.1, hc.2.1.2, hc.2.2⟩, rfl⟩
    · simp at h

theorem onAnswerable_head {s : State} {a : AgentId} {k : AnswerableKind} {f : Frame AnswerableKind}
    {rest : List (Frame AnswerableKind)} (act : State → Frame AnswerableKind → State)
    (h : AnswerableHead s a k f rest) : s.onAnswerable a k act = act (s.afterTakingAnswerable a f.epoch) f := by
  simp [State.onAnswerable, takeAnswerable_head h]

/-- Where nothing can be taken nothing changes; otherwise the rule of the kind acts on the state after the taking. -/
theorem onAnswerable_cases (s : State) (a : AgentId) (k : AnswerableKind)
    (act : State → Frame AnswerableKind → State) :
    (s.takeAnswerable a k = none ∧ s.onAnswerable a k act = s) ∨
    ∃ f rest, AnswerableHead s a k f rest ∧ s.onAnswerable a k act = act (s.afterTakingAnswerable a f.epoch) f := by
  unfold State.onAnswerable
  cases h : s.takeAnswerable a k with
  | none => exact .inl ⟨rfl, rfl⟩
  | some p =>
    obtain ⟨f, t⟩ := p
    obtain ⟨⟨rest, hh⟩, rfl⟩ := takeAnswerable_some h
    exact .inr ⟨f, rest, hh, rfl⟩

/-- The state after an answerable head in session has been taken. -/
theorem afterTakingAnswerable_inSession {s : State} {a : AgentId} {k : AnswerableKind} {f : Frame AnswerableKind}
    {rest : List (Frame AnswerableKind)} (h : AnswerableHead s a k f rest) (hs : InSession s a f.epoch) :
    s.afterTakingAnswerable a f.epoch = held s a rest := by
  unfold State.afterTakingAnswerable
  rw [hs.2.2]
  have hl := renewLease_active
    (s.modLink a fun l => { l with answerable := l.answerable.takeHead, replies := l.replies.reserve }) a
    (by simpa using hs.2.1)
  simp only [State.modLink_session] at hl
  rw [hl]
  have h1 : (s.agentLinks.get a).answerable.frames = f :: rest := h.1
  simp [held, heldLink, leftBuffer, Ingress.takeHead, ReplyArea.reserve, State.modLink, PerAgent.modify, renewed,
    State.link, State.session, h1, State.params]

/-- The state after an answerable head that renews nothing has been taken. -/
theorem afterTakingAnswerable_other {s : State} {a : AgentId} {k : AnswerableKind} {f : Frame AnswerableKind}
    {rest : List (Frame AnswerableKind)} (h : AnswerableHead s a k f rest)
    (hs : isActive (s.session a).state = true → f.epoch ≠ (s.session a).epoch) :
    s.afterTakingAnswerable a f.epoch =
      { s with agentLinks := s.agentLinks.set a (heldLink (s.link a) rest) } := by
  unfold State.afterTakingAnswerable
  rw [renewLease_other _ _ _ (by simpa using hs)]
  have h1 : (s.agentLinks.get a).answerable.frames = f :: rest := h.1
  simp [heldLink, leftBuffer, Ingress.takeHead, ReplyArea.reserve, State.modLink, PerAgent.modify, State.link, h1]

theorem takeClosing_head {s : State} {a : AgentId} {k : ClosingKind} {f : Frame ClosingKind}
    {rest : List (Frame ClosingKind)} (h : ClosingHead s a k f rest) :
    s.takeClosing a k = some (f, s.afterTakingClosing a f.epoch) := by
  obtain ⟨h1, h2, h3⟩ := h
  simp [State.takeClosing, h1, h2, h3]

theorem takeClosing_some {s t : State} {a : AgentId} {k : ClosingKind} {f : Frame ClosingKind}
    (h : s.takeClosing a k = some (f, t)) :
    (∃ rest, ClosingHead s a k f rest) ∧ t = s.afterTakingClosing a f.epoch := by
  unfold State.takeClosing at h
  split at h
  · simp at h
  · rename_i g rest hg
    split at h
    · rename_i hc
      simp only [Option.some.injEq, Prod.mk.injEq] at h
      obtain ⟨rfl, rfl⟩ := h
      simp at hc
      exact ⟨⟨rest, hg, hc.1, hc.2⟩, rfl⟩
    · simp at h

theorem onClosing_head {s : State} {a : AgentId} {k : ClosingKind} {f : Frame ClosingKind}
    {rest : List (Frame ClosingKind)} (act : State → Frame ClosingKind → State) (h : ClosingHead s a k f rest) :
    s.onClosing a k act = State.closingChecks a act (s.afterTakingClosing a f.epoch) f := by
  simp [State.onClosing, takeClosing_head h]

theorem onClosing_cases (s : State) (a : AgentId) (k : ClosingKind) (act : State → Frame ClosingKind → State) :
    (s.takeClosing a k = none ∧ s.onClosing a k act = s) ∨
    ∃ f rest, ClosingHead s a k f rest ∧
      s.onClosing a k act = State.closingChecks a act (s.afterTakingClosing a f.epoch) f := by
  unfold State.onClosing
  cases h : s.takeClosing a k with
  | none => exact .inl ⟨rfl, rfl⟩
  | some p =>
    obtain ⟨f, t⟩ := p
    obtain ⟨⟨rest, hh⟩, rfl⟩ := takeClosing_some h
    exact .inr ⟨f, rest, hh, rfl⟩

/-- The state after a closing head in session has been taken. -/
theorem afterTakingClosing_inSession {s : State} {a : AgentId} {k : ClosingKind} {f : Frame ClosingKind}
    {rest : List (Frame ClosingKind)} (h : ClosingHead s a k f rest) (hs : InSession s a f.epoch) :
    s.afterTakingClosing a f.epoch = closed s a rest := by
  unfold State.afterTakingClosing
  rw [hs.2.2]
  have hl := renewLease_active (s.modLink a fun l => { l with closing := l.closing.takeHead }) a
    (by simpa using hs.2.1)
  simp only [State.modLink_session] at hl
  rw [hl]
  have h1 : (s.agentLinks.get a).closing.frames = f :: rest := h.1
  simp [closed, leftBuffer, Ingress.takeHead, State.modLink, PerAgent.modify, renewed, State.link, State.session, h1,
    State.params]

/-- The state after a closing head that renews nothing has been taken. -/
theorem afterTakingClosing_other {s : State} {a : AgentId} {k : ClosingKind} {f : Frame ClosingKind}
    {rest : List (Frame ClosingKind)} (h : ClosingHead s a k f rest)
    (hs : isActive (s.session a).state = true → f.epoch ≠ (s.session a).epoch) :
    s.afterTakingClosing a f.epoch =
      { s with agentLinks :=
          s.agentLinks.set a { s.link a with closing := leftBuffer (s.link a).closing rest } } := by
  unfold State.afterTakingClosing
  rw [renewLease_other _ _ _ (by simpa using hs)]
  have h1 : (s.agentLinks.get a).closing.frames = f :: rest := h.1
  simp [leftBuffer, Ingress.takeHead, State.modLink, PerAgent.modify, State.link, h1]

/-- The checks of R31 and R181 pass a frame in session whose body has the length of its kind. -/
theorem closingChecks_pass {s : State} {a : AgentId} {f : Frame ClosingKind}
    (act : State → Frame ClosingKind → State) (hs : InSession s a f.epoch) (hb : f.body.length = f.kind.bodyLength) :
    State.closingChecks a act s f = act s f := by
  unfold State.closingChecks
  rw [if_neg hs.1]
  have h2 := hs.2.1
  cases hx : (s.session a).state <;> simp_all [isActive]

theorem takeCommand_head {s : State} {k : CommandKind} {f : Frame CommandKind} {rest : List (Frame CommandKind)}
    (h : CommandHead s k f rest) : s.takeCommand k = some (f, s.afterTakingCommand) := by
  obtain ⟨h1, h2, h3, h4⟩ := h
  simp [State.takeCommand, h1, h2, h3, ReplyArea.hasFree, h4]

theorem takeCommand_some {s t : State} {k : CommandKind} {f : Frame CommandKind} (h : s.takeCommand k = some (f, t)) :
    (∃ rest, CommandHead s k f rest) ∧ t = s.afterTakingCommand := by
  unfold State.takeCommand at h
  split at h
  · simp at h
  · rename_i g rest hg
    split at h
    · rename_i hc
      simp only [Option.some.injEq, Prod.mk.injEq] at h
      obtain ⟨rfl, rfl⟩ := h
      simp [ReplyArea.hasFree] at hc
      exact ⟨⟨rest, hg, hc.1.1, hc.1.2, hc.2⟩, rfl⟩
    · simp at h

theorem onCommand_head {s : State} {k : CommandKind} {f : Frame CommandKind} {rest : List (Frame CommandKind)}
    (act : State → List Byte → Answer) (h : CommandHead s k f rest) :
    s.onCommand k act = s.afterTakingCommand.answer f.tag (act s.afterTakingCommand f.body) := by
  simp [State.onCommand, takeCommand_head h]

theorem onCommand_cases (s : State) (k : CommandKind) (act : State → List Byte → Answer) :
    (s.takeCommand k = none ∧ s.onCommand k act = s) ∨
    ∃ f rest, CommandHead s k f rest ∧
      s.onCommand k act = s.afterTakingCommand.answer f.tag (act s.afterTakingCommand f.body) := by
  unfold State.onCommand
  cases h : s.takeCommand k with
  | none => exact .inl ⟨rfl, rfl⟩
  | some p =>
    obtain ⟨f, t⟩ := p
    obtain ⟨⟨rest, hh⟩, rfl⟩ := takeCommand_some h
    exact .inr ⟨f, rest, hh, rfl⟩

/-! ## Replies (R29, R157, R159) -/

/-- A reply placed in the slot that a taking has just reserved. -/
theorem placeReply_held (s : State) (a : AgentId) (rest : List (Frame AnswerableKind)) (tag : Nat)
    (reply : AgentReply) : (held s a rest).placeReply a tag reply = answered s a rest { tag := tag, reply := reply } := by
  simp [held, answered, State.placeReply, State.modLink, PerAgent.modify, heldLink, answeredLink, ReplyArea.place]

theorem refuse_held (s : State) (a : AgentId) (rest : List (Frame AnswerableKind)) (tag : Nat) (code : RefusalCode) :
    (held s a rest).refuse a tag code = answered s a rest { tag := tag, reply := .refused code } :=
  placeReply_held s a rest tag _

/-- The same where the taking renewed nothing. -/
theorem refuse_heldLink (s : State) (a : AgentId) (rest : List (Frame AnswerableKind)) (tag : Nat)
    (code : RefusalCode) :
    ({ s with agentLinks := s.agentLinks.set a (heldLink (s.link a) rest) } : State).refuse a tag code =
      turnedAway s a rest { tag := tag, reply := .refused code } := by
  simp [turnedAway, State.refuse, State.placeReply, State.modLink, PerAgent.modify, heldLink, answeredLink,
    ReplyArea.place]

/-- A command refused: only LI-M has changed. -/
theorem answer_refuse {s : State} {k : CommandKind} {f : Frame CommandKind} {rest : List (Frame CommandKind)}
    (h : CommandHead s k f rest) (status : Status) :
    s.afterTakingCommand.answer f.tag (.refuse status) = commanded s rest (refusedReply f.tag status) := by
  simp [State.answer, State.afterTakingCommand, State.placeMgmtReply, State.modMgmt, commanded, commandedLink,
    leftBuffer, Ingress.takeHead, ReplyArea.reserve, ReplyArea.place, MgmtCounters.addCommand, refusedReply, h.1]

/-- A command carried out: the effect, with LI-M's part of it, and the REPLY. -/
theorem answer_done (t u : State) (tag : Nat) (result : MgmtResult) :
    u.answer tag (.done t result) =
      { t with mgmtLink :=
          { t.mgmtLink with
            replies := t.mgmtLink.replies.place { tag := tag, status := .ok, result := result } } } := rfl

/-- LI-M once the command at its head has left the buffer and its slot is RESERVED. -/
theorem afterTakingCommand_head {s : State} {k : CommandKind} {f : Frame CommandKind} {rest : List (Frame CommandKind)}
    (h : CommandHead s k f rest) :
    s.afterTakingCommand =
      { s with mgmtLink :=
          { s.mgmtLink with
            command := leftBuffer s.mgmtLink.command rest
            replies := { s.mgmtLink.replies with reserved := s.mgmtLink.replies.reserved + 1 }
            counters := { s.mgmtLink.counters with
              commandsTaken := countUp s.mgmtLink.counters.commandsTaken } } } := by
  simp [State.afterTakingCommand, State.modMgmt, leftBuffer, Ingress.takeHead, ReplyArea.reserve,
    MgmtCounters.addCommand, h.1]

end Sys2Proof.Machine
end

