-- ==== Sys2Proof/Laws/Requests.lean ====
section
/-!
SUPPORT. The checks of a request read in the words of Sys2Proof/Safety.lean: session, tag, body, self-overlap, lookup,
the free slot, and the admission a request that has passed them reaches.
-/

namespace Sys2Proof.Laws

open Sys2Proof.Machine Sys2Proof.Safety

variable {s : State} {a : AgentId} {rest : List (Frame AnswerableKind)} {f : Frame AnswerableKind}

/-! ## Session checks (R30) -/

theorem sessionCheck_pass {epoch : Nat} (h : InSession s a epoch) : s.sessionCheck a epoch = none := by
  obtain ⟨h1, h2, h3⟩ := h
  unfold State.sessionCheck
  rw [if_neg h1]
  cases hs : (s.session a).state <;> simp_all [isActive]

@[simp] theorem held_session : (held s a rest).session a = renewed s a := by simp [held, State.session]

@[simp] theorem held_waitList : (held s a rest).waitList = s.waitList := rfl

@[simp] theorem held_grantTable : (held s a rest).grantTable = s.grantTable := rfl

@[simp] theorem held_params : (held s a rest).params = s.params := rfl

theorem held_obstacle (ahead : List WaitEntry) (c : Claim) :
    (held s a rest).obstacle ahead c = s.obstacle ahead c := rfl

theorem inSession_held {epoch : Nat} (h : InSession s a epoch) : InSession (held s a rest) a epoch :=
  ⟨h.1, by simp [renewed, isActive], by simpa [renewed] using h.2.2⟩

/-! ## Field checks (R32, R180) -/

theorem tagPasses_iff (s : State) (a : AgentId) (tag : Nat) : s.tagPasses a tag = true ↔ TagFree s a tag := by
  simp [State.tagPasses, TagFree]

theorem tagPasses_false (s : State) (a : AgentId) (tag : Nat) : s.tagPasses a tag = false ↔ ¬TagFree s a tag := by
  rw [← tagPasses_iff]; simp

theorem selfOverlaps_false (s : State) (a : AgentId) (x : Extent) :
    s.selfOverlaps a x = false ↔ NoSelfOverlap s a x := by
  simp [State.selfOverlaps, NoSelfOverlap]

theorem joinWindow_none :
    (31 < f.tag ∨ f.body.length ≠ 1 ∨ field f.body 0 1 = 0 ∨ 16 < field f.body 0 1) ↔
      (Config.maxTag < f.tag ∨ joinWindow f.body = none) := by
  unfold joinWindow
  simp only [Config.maxTag, Config.maxRecallWindow]
  split <;> simp <;> omega

theorem joinWindow_some {w : Nat} (h : JoinAsks f w) : joinWindow f.body = some w := by
  obtain ⟨h1, h2, h3, h4, h5⟩ := h
  subst h3
  simp [joinWindow, h2, h4, h5]

theorem acquireFields_some {x : Extent} {m : Mode} {w : Nat} (h : AcquireAsks f x m w) :
    acquireFields f.body = some { extent := x, mode := m, maxWait := w } := by
  obtain ⟨h1, h2, h3, h4⟩ := h
  subst h2 h4
  simp [acquireFields, h1, h3, extentField]

theorem acquireFields_none : (f.body.length ≠ 12 ∨ Mode.ofCode (field f.body 9 1) = none) ↔
    acquireFields f.body = none := by
  unfold acquireFields
  split <;> simp_all

theorem convertFields_some {token : Nat} {m : Mode} {w : Nat} (h : ConvertAsks f token m w) :
    convertFields f.body = some { token := token, mode := m, maxWait := w } := by
  obtain ⟨h1, h2, h3, h4⟩ := h
  subst h2 h4
  simp [convertFields, h1, h3]

theorem convertFields_none : (f.body.length ≠ 11 ∨ Mode.ofCode (field f.body 8 1) = none) ↔
    convertFields f.body = none := by
  unfold convertFields
  split <;> simp_all

/-! ## The lowest free slot (R11) -/

theorem leastUnused_eq (used : List Nat) : ∀ fuel n slot, n ≤ slot → slot < n + fuel → slot ∉ used →
    (∀ m, n ≤ m → m < slot → m ∈ used) → leastUnused used fuel n = some slot := by
  intro fuel
  induction fuel with
  | zero => intro n slot h1 h2; omega
  | succ k ih =>
    intro n slot h1 h2 h3 h4
    unfold leastUnused
    by_cases h : n = slot
    · subst h; simp [h3]
    · have : n ∈ used := h4 n (le_refl _) (by omega)
      simp only [List.contains_eq_mem, this, decide_true, if_true]
      exact ih (n + 1) slot (by omega) (by omega) h3 fun m hm => h4 m (by omega)

theorem leastUnused_isSome (used : List Nat) : ∀ fuel n,
    (leastUnused used fuel n).isSome = true ↔ ∃ m, n ≤ m ∧ m < n + fuel ∧ m ∉ used := by
  intro fuel
  induction fuel with
  | zero => intro n; simp [leastUnused]; intro x h1 h2; omega
  | succ k ih =>
    intro n
    unfold leastUnused
    by_cases h : n ∈ used
    · simp only [List.contains_eq_mem, h, decide_true, if_true]
      rw [ih]
      constructor
      · rintro ⟨m, h1, h2, h3⟩; exact ⟨m, by omega, by omega, h3⟩
      · rintro ⟨m, h1, h2, h3⟩
        have : m ≠ n := fun e => h3 (e ▸ h)
        exact ⟨m, by omega, by omega, h3⟩
    · simp only [List.contains_eq_mem, h, decide_false]
      simp only [Bool.false_eq_true, if_false, Option.isSome_some, true_iff]
      exact ⟨n, le_refl _, by omega, h⟩

theorem freeSlot_lowest {n : Nat} (h : LowestFree s n) : s.freeSlot = some n := by
  obtain ⟨h1, h2, h3⟩ := h
  apply leastUnused_eq _ _ _ _ (Nat.zero_le _) (by simpa using h1)
  · simpa using h2
  · intro m _ hm
    obtain ⟨r, hr, he⟩ := h3 m hm
    exact List.mem_map.mpr ⟨r, hr, he⟩

/-! ## Lookup by token (R20) -/

theorem token_unique : ∀ {l : List GrantRecord}, l.Pairwise (fun r q => r.token ≠ q.token) → ∀ {q r : GrantRecord},
    q ∈ l → r ∈ l → q.token = r.token → q = r := by
  intro l
  induction l with
  | nil => intro _ q r hq; simp at hq
  | cons y l ih =>
    intro hp q r h1 h2 h3
    obtain ⟨p1, p2⟩ := List.pairwise_cons.mp hp
    rcases List.mem_cons.mp h1 with e1 | h1 <;> rcases List.mem_cons.mp h2 with e2 | h2
    · rw [e1, e2]
    · rw [e1] at h3; exact absurd h3 (p1 _ h2)
    · rw [e2] at h3; exact absurd h3.symm (p1 _ h1)
    · exact ih p2 h1 h2 h3

theorem lookup_cites {t : Nat} {r : GrantRecord} (hi : IndexLaw s) (h : Cites s a t r) : s.lookup a t = some r := by
  obtain ⟨hmem, h1, h2, h3⟩ := h
  unfold State.lookup
  cases hf : s.grantTable.records.find?
      fun r => r.token = t && r.holder = a && r.epoch = (s.session a).epoch with
  | none =>
    rw [List.find?_eq_none] at hf
    exact absurd (hf r hmem) (by simp [h1, h2, h3])
  | some q =>
    have hq := List.mem_of_find?_eq_some hf
    have hp := List.find?_some hf
    simp only [Bool.and_eq_true, decide_eq_true_eq] at hp
    rw [token_unique hi.2.2.2.1 hq hmem (by rw [hp.1.1, h1])]

theorem lookup_none {t : Nat} (h : ∀ r, ¬Cites s a t r) : s.lookup a t = none := by
  unfold State.lookup
  rw [List.find?_eq_none]
  intro r hr hc
  simp only [Bool.and_eq_true, decide_eq_true_eq] at hc
  exact h r ⟨hr, hc.1.1, hc.1.2, hc.2⟩

theorem cites_held {t : Nat} {r : GrantRecord} : Cites (held s a rest) a t r ↔ Cites s a t r := by
  simp [Cites, renewed]

theorem converts_any (s : State) (a : AgentId) (slot : Nat) :
    (s.waitList.any fun e => e.converts a slot) = false ↔
      ∀ e ∈ s.waitList, e.agent = a → e.kind ≠ .convert slot := by
  simp [WaitEntry.converts]

/-! ## The admission reached (R37, R45, R47) -/

theorem exec_acquire {x : Extent} {m : Mode} {w : Nat} (h : AcquireReady s a f rest x m w) :
    exec (.acquire a) s = .next ((held s a rest).admission (acquiring a x m) f.tag f.epoch w) := by
  obtain ⟨hh, hin, hq, ht, hv, hs⟩ := h
  have hc := sessionCheck_pass (inSession_held (rest := rest) hin)
  have htp : (held s a rest).tagPasses a f.tag = true := (tagPasses_iff _ _ _).mpr ht
  have h2 : (held s a rest).selfOverlaps a x = false := (selfOverlaps_false _ _ _).mpr hs
  have hr : (held s a rest).acquireRefusal a f.tag { extent := x, mode := m, maxWait := w } = none := by
    simp [State.acquireRefusal, htp, hv, h2]
  simp only [exec, execAcquire, onAnswerable_head _ hh, afterTakingAnswerable_inSession hh hin, State.handleAcquire,
    hc, acquireFields_some hq, hr]
  rfl

theorem exec_convert {r : GrantRecord} {w : Nat} (hi : IndexLaw s) (h : ConvertReady s a f rest r .exclusive w) :
    exec (.convert a) s = .next ((held s a rest).convertUp a f.tag f.epoch w r) := by
  obtain ⟨hh, hin, hq, ht, hci, hm, hne⟩ := h
  have hc := sessionCheck_pass (inSession_held (rest := rest) hin)
  have htp : (held s a rest).tagPasses a f.tag = true := (tagPasses_iff _ _ _).mpr ht
  have hl : (held s a rest).lookup a r.token = some r := lookup_cites (s := held s a rest) hi (cites_held.mpr hci)
  have hcv : ((held s a rest).waitList.any fun e => e.converts a r.slot) = false := (converts_any _ _ _).mpr hne
  simp only [exec, execConvert, onAnswerable_head _ hh, afterTakingAnswerable_inSession hh hin, State.handleConvert,
    hc, convertFields_some hq, htp, if_true, State.convertSubject, hl, if_neg hm, hcv, Bool.false_eq_true, if_false]

/-! ## Admission (R37 to R39, R47) -/

theorem admission_granted {c : Claim} {tag epoch w : Nat} (h : s.obstacle s.waitList c = none) :
    s.admission c tag epoch w = s.grant c tag epoch := by
  unfold State.admission; rw [h]

theorem admission_blocked {c : Claim} {tag epoch w : Nat} {o : Obstacle} (h : s.obstacle s.waitList c = some o) :
    s.admission c tag epoch w =
      if w = 0 then s.refuse c.agent tag .conflict
      else if o = .room then s.refuse c.agent tag .tableFull
      else if Config.waitCapacity ≤ s.waitList.length then s.refuse c.agent tag .waitFull
      else s.appendEntry c tag epoch w o := by
  unfold State.admission; rw [h]

/-- The grant of an ACQUIRE: the record in the lowest free slot, the counter, the reply and the count. -/
theorem grant_acquire {c : Claim} {slot tag epoch : Nat} (hk : c.kind = .acquire) (h : s.freeSlot = some slot) :
    s.grant c tag epoch =
      (({ s with grantTable :=
          { records := insertRecord (c.newRecord slot s.nextToken epoch) s.grantTable.records
            counter := s.nextToken } } : State).placeReply c.agent tag
        (.granted s.nextToken c.extent c.mode)).modCounters c.agent AgentCounters.addGrant := by
  unfold State.grant State.createRecord
  simp only [hk, h]

/-- The grant of a CONVERT: the subject upgraded under a new token, the reply and the count. -/
theorem grant_convert {c : Claim} {slot tag epoch : Nat} (hk : c.kind = .convert slot) :
    s.grant c tag epoch =
      ((s.upgradeRecord slot).placeReply c.agent tag (.converted s.nextToken .exclusive)).modCounters c.agent
        AgentCounters.addGrant := by
  unfold State.grant
  simp only [hk]

end Sys2Proof.Laws
end

