-- ==== Sys2Proof/Laws/Closing.lean ====
section
/-!
SUPPORT. Closing frames in session, entries that leave the Wait List from where they stand, and a record found and changed
by its slot.
-/

namespace Sys2Proof.Laws

open Sys2Proof.Machine Sys2Proof.Safety

variable {s : State} {a : AgentId} {rest : List (Frame ClosingKind)}

/-! ## A closing frame taken in session -/

@[simp] theorem closed_session : (closed s a rest).session a = renewed s a := by simp [closed, State.session]

theorem inSession_closed {epoch : Nat} (h : InSession s a epoch) : InSession (closed s a rest) a epoch :=
  ⟨h.1, by simp [renewed, isActive], by simpa [renewed] using h.2.2⟩

theorem cites_closed {t : Nat} {r : GrantRecord} : Cites (closed s a rest) a t r ↔ Cites s a t r := by
  simp only [Cites, closed_session, renewed]
  exact Iff.rfl

theorem protocolError_closed (s : State) (a : AgentId) (rest : List (Frame ClosingKind)) (kind : ProtocolErrorKind)
    (code : Nat) :
    (closed s a rest).protocolError a kind code = logged
      (withSession (closed s a rest) a
        { renewed s a with counters :=
          { (s.session a).counters with protocolErrors := countUp (s.session a).counters.protocolErrors } })
      (.protocolError (.agent a) kind code) := by
  simp [State.protocolError, State.modCounters, State.modSession, PerAgent.modify, closed,
    AgentCounters.addProtocolError, State.session, State.report, logged, withSession, renewed]

theorem lateFrame_closed (s : State) (a : AgentId) (rest : List (Frame ClosingKind)) :
    (closed s a rest).lateFrame a = withSession (closed s a rest) a
      { renewed s a with counters :=
        { (s.session a).counters with lateFrames := countUp (s.session a).counters.lateFrames } } := by
  simp [State.lateFrame, State.modCounters, State.modSession, PerAgent.modify, closed, AgentCounters.addLate,
    State.session, withSession, renewed]

/-- What a closing frame of any kind comes to against a session that is not ACTIVE. -/
theorem closingChecks_late {f : Frame ClosingKind} (act : State → Frame ClosingKind → State)
    (h : isActive (s.session a).state = false) : State.closingChecks a act s f = s.lateFrame a := by
  unfold State.closingChecks
  split
  · rfl
  · cases hx : (s.session a).state <;> simp_all [isActive]

/-- What it comes to against an ACTIVE one: the epoch, then the body length, then the rule of its kind. -/
theorem closingChecks_active {f : Frame ClosingKind} (act : State → Frame ClosingKind → State)
    (hm : s.management.state ≠ .unconfigured) (h : isActive (s.session a).state = true) :
    State.closingChecks a act s f =
      if f.epoch ≠ (s.session a).epoch then s.protocolError a .badEpoch f.kind.code
      else if f.body.length ≠ f.kind.bodyLength then s.protocolError a .badLength f.kind.code
      else act s f := by
  unfold State.closingChecks
  rw [if_neg hm]
  cases hx : (s.session a).state <;> simp_all [isActive]

/-! ## An entry leaves from where it stands -/

theorem find_split {α : Type} {p : α → Bool} {before after : List α} {e : α} (hb : ∀ x ∈ before, p x = false)
    (he : p e = true) : (before ++ e :: after).find? p = some e := by
  rw [List.find?_append, List.find?_eq_none.mpr (by simpa using hb)]
  simp [he]

theorem eraseP_split {α : Type} {p : α → Bool} {before after : List α} {e : α} (hb : ∀ x ∈ before, p x = false)
    (he : p e = true) : (before ++ e :: after).eraseP p = before ++ after := by
  rw [List.eraseP_append_right _ (by simpa using hb)]
  simp [he]

/-- No CONVERT of the record waits: nothing changes. -/
theorem dropConvert_none {slot : Nat} {code : RefusalCode}
    (h : ∀ e ∈ s.waitList, e.agent = a → e.kind ≠ .convert slot) : s.dropConvert a slot code = s := by
  unfold State.dropConvert
  rw [List.find?_eq_none.mpr]
  intro e he hc
  simp only [WaitEntry.converts, Bool.and_eq_true, decide_eq_true_eq] at hc
  exact h e he hc.1 hc.2

/-- A CONVERT of the record waits: it leaves its place and is answered. -/
theorem dropConvert_some {slot : Nat} {code : RefusalCode} {before after : List WaitEntry} {e : WaitEntry}
    (h : s.waitList = before ++ e :: after) (ha : e.agent = a) (hk : e.kind = .convert slot)
    (hb : ∀ e' ∈ before, e'.agent = a → e'.kind ≠ .convert slot) :
    s.dropConvert a slot code =
      replied { s with waitList := before ++ after } a { tag := e.tag, reply := .refused code } := by
  have h1 : ∀ x ∈ before, x.converts a slot = false := by
    intro x hx; simpa [WaitEntry.converts] using hb x hx
  have h2 : e.converts a slot = true := by simp [WaitEntry.converts, ha, hk]
  unfold State.dropConvert
  rw [h, find_split h1 h2]
  simp only [eraseP_split (p := fun e : WaitEntry => e.converts a slot) h1 h2]
  simp [State.setWaitList, State.refuse, State.placeReply, State.modLink, PerAgent.modify, replied, withLink, State.link,
    filledWith, ReplyArea.place]

/-- An entry named by agent and tag leaves its place, is answered, and a walk follows. -/
theorem expelEntry_eq {tag : Nat} {code : RefusalCode} {before after : List WaitEntry} {e : WaitEntry}
    (h : s.waitList = before ++ e :: after) (ha : e.agent = a) (ht : e.tag = tag)
    (hb : ∀ e' ∈ before, e'.agent = a → e'.tag ≠ tag) :
    s.expelEntry a tag code =
      (replied { s with waitList := before ++ after } a { tag := tag, reply := .refused code }).reevaluate := by
  unfold State.expelEntry
  rw [h, eraseP_split (p := fun e : WaitEntry => decide (e.agent = a) && decide (e.tag = tag))
    (by intro x hx; simpa using hb x hx) (by simp [ha, ht])]
  simp [State.setWaitList, State.refuse, State.placeReply, State.modLink, PerAgent.modify, replied, withLink, State.link,
    filledWith, ReplyArea.place]

@[simp] theorem churned_waitList (s : State) (a : AgentId) (o : ChurnOutcome) :
    (churned s a o).waitList = s.waitList := by
  unfold churned; split <;> rfl

/-! ## A record by its slot -/

theorem recordAt_eq {r : GrantRecord} (hi : IndexLaw s) (hr : r ∈ s.grantTable.records) :
    s.recordAt r.slot = some r := by
  unfold State.recordAt
  cases h : s.grantTable.records.find? fun q => q.slot = r.slot with
  | none => rw [List.find?_eq_none] at h; exact absurd (h r hr) (by simp)
  | some q =>
    have h2 := List.find?_some h
    rw [slot_unique hi.2.1 (List.mem_of_find?_eq_some h) hr (by simpa using h2)]

/-- Changing the record in a slot changes that record alone. -/
theorem map_slot {r : GrantRecord} (hi : IndexLaw s) (hr : r ∈ s.grantTable.records)
    (f : GrantRecord → GrantRecord) :
    (s.grantTable.records.map fun q => if q.slot = r.slot then f q else q) =
      s.grantTable.records.map fun q => if q = r then f r else q := by
  apply List.map_congr_left
  intro q hq
  by_cases h : q.slot = r.slot
  · have := slot_unique hi.2.1 hq hr h; subst this; simp
  · have : q ≠ r := fun e => h (e ▸ rfl)
    simp [h, this]

end Sys2Proof.Laws
end

