-- ==== Sys2Proof/Laws/Deadlines.lean ====
section
/-!
SUPPORT. The Time Base: when a deadline is due, and what a millisecond leaves alone.
-/

namespace Sys2Proof.Laws

open Sys2Proof.Machine

/-- A deadline is due where an entry's, a recall's or an ACTIVE session's is the count (R2). -/
theorem deadlineDue_iff (s : State) : s.deadlineDue = true ↔
    (∃ e ∈ s.waitList, e.deadline = s.timeBase) ∨
    (∃ r ∈ s.grantTable.records, ∃ rc, r.recallRecord = some rc ∧ rc.deadline = s.timeBase) ∨
    ∃ a : AgentId, (s.session a).state = .active s.timeBase := by
  have : ∀ a : AgentId, a ∈ allAgents := by decide
  simp [State.deadlineDue, Option.any_eq_true, this, or_assoc]

variable (s : State)

theorem timeAdvances_timeBase : s.timeAdvances.timeBase =
    if s.timeBase < Config.timeMax then s.timeBase + 1 else s.timeBase := rfl
@[simp] theorem timeAdvances_grantTable : s.timeAdvances.grantTable = s.grantTable := rfl
@[simp] theorem timeAdvances_waitList : s.timeAdvances.waitList = s.waitList := rfl
@[simp] theorem timeAdvances_sendList (a : AgentId) : s.timeAdvances.sendList a = s.sendList a := rfl
@[simp] theorem timeAdvances_session (a : AgentId) : s.timeAdvances.session a = s.session a := rfl
@[simp] theorem timeAdvances_sweep : s.timeAdvances.sweep = s.sweep := rfl
@[simp] theorem timeAdvances_churn : s.timeAdvances.churn = s.churn := rfl
@[simp] theorem timeAdvances_reportQueue : s.timeAdvances.reportQueue = s.reportQueue := rfl
@[simp] theorem timeAdvances_management : s.timeAdvances.management = s.management := rfl
@[simp] theorem timeAdvances_link (a : AgentId) : s.timeAdvances.link a = s.link a := rfl
@[simp] theorem timeAdvances_mgmtLink : s.timeAdvances.mgmtLink = s.mgmtLink := rfl
@[simp] theorem timeAdvances_pending : s.timeAdvances.pending = s.pending := rfl

end Sys2Proof.Laws
end

