-- ==== Sys2Proof/WellFormed.lean ====
section
/-!
DEFINITION. Which commands name something the spec admits. The agent, group and link numbers are right by their
types; a tag and a slot are checked here. exec itself needs no such premise: a tag or a slot outside its range names no
entry and no record, and the command changes nothing.
-/

namespace Sys2Proof

/-- A wait entry's tag lies in 0 to 31 (R33) and a slot in 0 to 4095 (R11). Every other operand is admitted: an
arriving frame may be any run of bytes (R132). -/
def Instr.wellFormed : Instr → Bool
  | .waitDeadline _ tag => tag ≤ Config.maxTag
  | .recallDeadline slot => slot < Config.slotCount
  | _ => true

end Sys2Proof
end

