-- ==== Sys2Proof/Tests/Slice0.lean ====
section
/-!
SUPPORT. Tests of the model against the worked examples and tables of spec/,
  and for every obligation with hypotheses a
state that meets them. The expected values of the first part are the spec's own, or counted by hand from its tables.
-/

set_option Elab.async false

namespace Sys2Proof.Tests

open Sys2Proof.Machine Sys2Proof.Safety

/-! ## Small states -/

/-- The state a command leaves. -/
def left (o : Host.Outcome State Fault Refusal) : State :=
  match o with
  | .next t => t
  | _ => State.reset

/-- A record of epoch 1, HELD unless a recall is given. -/
def lease (slot token : Nat) (holder : AgentId) (start length : Nat) (mode : Mode)
    (rc : Option RecallRecord := none) (pending : Bool := false) : GrantRecord :=
  { slot := slot, token := token, holder := holder, epoch := 1, extent := ⟨start, length⟩, mode := mode,
    recallRecord := rc, sweepPending := pending }

/-- A wait entry of epoch 1. -/
def waits (a : AgentId) (tag start length : Nat) (mode : Mode) (deadline : Nat) (state : EntryState)
    (kind : RequestKind := .acquire) : WaitEntry :=
  { agent := a, tag := tag, epoch := 1, kind := kind, extent := ⟨start, length⟩, mode := mode, deadline := deadline,
    state := state }

/-- Every agent ACTIVE under epoch 1 with its lease until 100,000,
  every link in RUN with full credit and recall credit
4, V = 1,000,000, L = 2,000, T_r = 100, N_r = 4, report window 8. -/
def running (time counter : Nat) (records : List GrantRecord) (entries : List WaitEntry := []) : State :=
  { State.reset with
    timeBase := time
    grantTable := { records := records, counter := counter }
    waitList := entries
    sessions := .const
      { Session.powerOn with state := .active 100000, epoch := 1, admitFlag := true, recallWindow := 4 }
    management := { state := .running, params := ⟨1000000, 2000, 100, 4, 8⟩ }
    agentLinks := ⟨Vector.ofFn fun a : Fin 8 =>
      { AgentLink.powerOn with
        linkState := .run, answerable := ⟨[], 16, 0⟩, closing := ⟨[], 8, 0⟩, recallCredit := 4
        replies := ⟨entries.countP fun e => e.agent = a, []⟩ }⟩
    mgmtLink := { MgmtLink.powerOn with linkState := .run, command := ⟨[], 4, 0⟩, reportCredit := 8 } }

/-- An answerable frame of epoch `epoch` alone in agent `a`'s buffer. -/
def asking (s : State) (a : AgentId) (k : AnswerableKind) (tag : Nat) (body : List Byte) (epoch : Nat := 1) : State :=
  withLink s a { s.link a with answerable := ⟨[⟨k, tag, epoch, body⟩], 15, 0⟩ }

/-- A closing frame alone in agent `a`'s buffer. -/
def closing (s : State) (a : AgentId) (k : ClosingKind) (tag : Nat) (body : List Byte) (epoch : Nat := 1) : State :=
  withLink s a { s.link a with closing := ⟨[⟨k, tag, epoch, body⟩], 7, 0⟩ }

/-- A command alone in LI-M's buffer. -/
def commanding (s : State) (k : CommandKind) (tag : Nat) (body : List Byte) : State :=
  { s with mgmtLink := { s.mgmtLink with command := ⟨[⟨k, tag, 0, body⟩], 3, 0⟩ } }

/-- Bytes as section 9.4 lays them out: an ACQUIRE body, a CONVERT body. -/
def acquireBody (start length mode maxWait : Nat) : List Byte :=
  beBytes 6 start ++ beBytes 3 length ++ beBytes 1 mode ++ beBytes 2 maxWait

def convertBody (token mode maxWait : Nat) : List Byte := beBytes 8 token ++ beBytes 1 mode ++ beBytes 2 maxWait

/-! ## Well-formedness: one ill-formed term for each check, and the last good one (R33, R11) -/

theorem test_wellFormed_tag : (Instr.waitDeadline 0 32).wellFormed = false ∧
  (Instr.waitDeadline 0 31).wellFormed = true := by
  decide

theorem test_wellFormed_slot : (Instr.recallDeadline 4096).wellFormed = false ∧
  (Instr.recallDeadline 4095).wellFormed = true := by
  decide

/-- No row of the table has bits, so no word spells a command. -/
theorem test_decode_none : decodeTableWord 8 0 = none ∧ State.reset.withFetchWord 8 0 = State.reset :=
  by decide +kernel

/-! ## Frames -/

/-- R178: the nine bytes 0x31 to 0x39 give 0xCBF43926. -/
theorem test_crc_check : crc32 [0x31, 0x32, 0x33, 0x34, 0x35, 0x36, 0x37, 0x38, 0x39] = 0xCBF43926#32 :=
  by decide +kernel

/-- Section 9.7's ACQUIRE of agent 5: 26 bytes, header and body written out from sections 9.1 and 9.4. -/
theorem test_acquire_frame_bytes :
    (frameBytes 0x12 3 7 2 0 (acquireBody 4096 256 2 500)).take 22 =
      [0x12, 3, 0, 12, 0, 0, 0, 7, 2, 0, 0, 0, 0, 0, 0x10, 0, 0, 1, 0, 2, 0x01, 0xF4] ∧
    (frameBytes 0x12 3 7 2 0 (acquireBody 4096 256 2 500)).length = 26 := by decide +kernel

/-- The GRANTED of the same example: tag 3, 18 body bytes, 32 bytes in all. -/
theorem test_granted_body :
    (AgentReply.granted 9 ⟨4096, 256⟩ .exclusive).body =
      [0, 0, 0, 0, 0, 0, 0, 9, 0, 0, 0, 0, 0x10, 0, 0, 1, 0, 2] ∧
    (AgentReply.refused .conflict).body = [0x09] := by decide +kernel

/-! ## Whole part and links -/

/-- R2. -/
theorem test_powerOn : left (exec .powerOn (running 5 7 [lease 0 7 1 10 5 .shared])) = State.reset :=
  by decide +kernel

theorem test_millisecondTick : (left (exec .millisecondTick (running 5 7 []))).timeBase = 6 ∧
    (left (exec .millisecondTick (running (2 ^ 64 - 1) 7 []))).timeBase = 2 ^ 64 - 1 := by decide +kernel

/-- R2: at 100,000 every session lease is due; after the expiries the count goes on. -/
theorem test_millisecondTick_due :
    let s := running 100000 7 []
    let t := allAgents.foldl (fun u a => left (exec (.sessionLeaseExpiry a) u)) s
    (left (exec .millisecondTick s)).timeBase = 100000 ∧ (left (exec .millisecondTick t)).timeBase = 100001 := by
  decide +kernel

/-- R130. -/
theorem test_signalFound :
    let t := left (exec (.signalFound (.agent 4)) State.reset)
    (t.link 4).linkState = .waitSync ∧ t.reportQueue.reports = [.linkState (.agent 4) .waitSync .signalFound] := by
  decide +kernel

/-- R131, with the LINK_STATE body of section 9.6: kind 0x05, link 8, DOWN, SIGNAL_LOST. -/
theorem test_signalLost :
    let t := left (exec (.signalLost .mgmt) (running 5 7 []))
    t.mgmtLink.linkState = .down ∧ t.reportQueue.reports.map Report.body = [[0x05, 8, 0x00, 0x02]] := by
  decide +kernel

/-- Agent 2's link in section 10.6 just before its SYNC. -/
def link106 : State :=
  let s := running 0 7 []
  withLink s 2 { s.link 2 with
    linkState := .waitSync, answerable := ⟨[⟨.acquire, 0, 1, []⟩], 15, 0⟩, closing := ⟨[], 7, 1⟩, recallCredit := 3 }

/-- Section 10.6: a SYNC with count 4 rebuilds 15 and 8 and places SYNC_ACK(15, 8). -/
theorem test_frameArrival_sync :
    let l := (left (exec (.frameArrival 2 (frameBytes 1 0 1 0 0 [4])) link106)).link 2
    l.linkState = .run ∧ (l.answerable.outstanding, l.answerable.toReturn) = (15, 0) ∧
    (l.closing.outstanding, l.closing.toReturn) = (8, 0) ∧ l.recallCredit = 4 ∧ l.control = [.syncAck 15 8] := by
  decide +kernel

/-- Section 10.6: a frame with a bad CRC in RUN is counted and sends the link to WAIT_SYNC; nothing is charged. -/
theorem test_frameArrival_crc :
    let t := left (exec (.frameArrival 2 (beBytes 14 0)) (running 0 7 []))
    (t.link 2).linkState = .waitSync ∧ (t.link 2).answerable.outstanding = 16 ∧
    (t.session 2).counters.linkCrcErrors = 1 := by decide +kernel

/-- Section 10.1 at 31: RECALL 201 RELEASE #1 leaves and the recall credit becomes 3. -/
theorem test_agentLinkSend :
    let s := { running 31 202 [] with sendLists := (PerAgent.const []).set 0 [⟨201, ⟨6000, 100⟩, .release, 1⟩] }
    let l := (left (exec (.agentLinkSend 0) s)).link 0
    l.recallCredit = 3 ∧ l.turn = .reply ∧ l.transmitter = .busy (frameBytes 0x61 0 1 0 0
      [0, 0, 0, 0, 0, 0, 0, 201, 0, 0, 0, 0, 0x17, 0x70, 0, 0, 100, 0x01, 1]) := by decide +kernel

/-- R147. -/
theorem test_endOfTransmission :
    let s := running 0 7 []
    let t := left (exec (.endOfTransmission (.agent 1)) (withLink s 1 { s.link 1 with transmitter := .busy [1] }))
    (t.link 1).transmitter = .idle := by decide +kernel

/-- Section 10.5 at 10,500: REPORT_ACK with X 8 brings 8 report credits and joins the command buffer. -/
theorem test_mgmtFrameArrival :
    let s := running 10500 7 []
    let l := (left (exec (.mgmtFrameArrival (frameBytes 0xA1 0 0 8 0 []))
      { s with mgmtLink := { s.mgmtLink with reportCredit := 0 } })).mgmtLink
    l.reportCredit = 8 ∧ l.command.outstanding = 3 ∧ l.command.frames.length = 1 := by decide +kernel

/-- Section 10.5 at 10,910: the marker goes as OVERFLOW with lost count 2, the queue stays SUSPENDED. -/
theorem test_mgmtLinkSend :
    let s := { running 10910 7 [] with reportQueue := ⟨[], true, true, 2⟩ }
    let t := left (exec .mgmtLinkSend s)
    t.reportQueue = ⟨[], false, true, 2⟩ ∧ t.mgmtLink.reportCredit = 7 ∧
    t.mgmtLink.transmitter = .busy (frameBytes 0xD1 0 0 0 0 [0x06, 0, 0, 0, 2]) := by decide +kernel

/-! ## Sessions -/

/-- R82: JOIN of an OFFLINE agent of epoch 3 gives epoch 4. -/
theorem test_join :
    let s := running 1000 7 []
    let t := left (exec (.join 4) (asking (withSession s 4 { s.session 4 with state := .offline, epoch :=
      3 }) 4 .join 0 [2] 0))
    (t.session 4).state = .active 3000 ∧ (t.session 4).epoch = 4 ∧ (t.link 4).recallCredit = 2 ∧
    (t.link 4).replies.filled = [⟨0, .joined 4 2000 100 4 1000000 2⟩] := by decide +kernel

/-- Section 4.12 at 5,020: a FENCED agent's JOIN is refused with FENCED. -/
theorem test_join_fenced :
    let s := running 5020 7 []
    ((left (exec (.join 4) (asking (withSession s 4 { s.session 4 with state :=
      .fenced }) 4 .join 0 [2] 0))).link 4).replies.filled =
      [⟨0, .refused .fenced⟩] := by decide +kernel

/-- R85, R51. -/
theorem test_leave :
    let s := running 10 7 [lease 0 7 1 10 5 .shared] [waits 1 3 50 5 .shared 90 (.queued .noRecord)]
    let t := left (exec (.leave 1) (asking s 1 .leave 2 []))
    (t.session 1).state = .offline ∧ t.grantTable.records = [] ∧ t.waitList = [] ∧
    (t.link 1).replies = ⟨0, [⟨3, .refused .sessionEnded⟩, ⟨2, .left⟩]⟩ := by decide +kernel

/-- Section 10.5 at 10,007: agent 7 is fenced, its report overflows the queue. -/
theorem test_sessionLeaseExpiry :
    let s := running 100000 7 [lease 0 7 7 10 5 .shared]
    let t := left (exec (.sessionLeaseExpiry 7)
      { s with reportQueue := ⟨List.replicate 64 (.fenced 3 .leaseExpired 1 0 0), false, false, 0⟩ })
    (t.session 7).state = .fenced ∧ t.grantTable.records = [] ∧
    (t.link 7).control = [.notice (.fenced .leaseExpired) 1] ∧
    t.reportQueue.marker = true ∧ t.reportQueue.lost = 1 ∧ t.reportQueue.reports.length = 64 := by decide +kernel

/-! ## Requests (sections 10.1 and 10.2) -/

/-- The records of section 10.1 before time 30. -/
def leases101 : List GrantRecord := [lease 0 201 0 6000 100 .shared, lease 1 202 1 6050 20 .shared]

/-- The recall that section 10.1 issues at 30. -/
def recall101 : RecallRecord := ⟨.release, .conflict, 1, 130⟩

/-- Section 10.1 at 20: both SHARED, granted in slot 1 with token 202. -/
theorem test_acquire_granted :
    (left (exec (.acquire 1) (asking (running 20 201 [lease 0 201 0 6000 100 .shared]) 1 .acquire 2
      (acquireBody 6050 20 1 0)))).grantTable = ⟨leases101, 202⟩ := by decide +kernel

/-- Section 10.1 at 30: the entry is RECALLING until 1,030 and both records are recalled. -/
theorem test_acquire_recalls :
    let t := left (exec (.acquire 2) (asking (running 30 202 leases101) 2 .acquire 0 (acquireBody 6040 40 2 1000)))
    t.waitList = [waits 2 0 6040 40 .exclusive 1030 .recalling] ∧
    t.grantTable.records =
      [lease 0 201 0 6000 100 .shared recall101, lease 1 202 1 6050 20 .shared recall101] ∧
    t.sendList 0 = [⟨201, ⟨6000, 100⟩, .release, 1⟩] := by decide +kernel

/-- Section 10.2: two upgraders of one extent. -/
def leases102 (rc : Option RecallRecord) : List GrantRecord :=
  [lease 5 301 3 20000 64 .shared, lease 6 302 4 20000 64 .shared rc]

/-- Section 10.2 at 0: the first CONVERT waits with subject slot 5 and recalls 302. -/
theorem test_convert_waits :
    let t := left (exec (.convert 3) (asking (running 0 302 (leases102 none)) 3 .convert 7 (convertBody 301 2 2000)))
    t.waitList = [waits 3 7 20000 64 .exclusive 2000 .recalling (.convert 5)] ∧
    t.grantTable.records = leases102 (some ⟨.release, .conflict, 1, 100⟩) := by decide +kernel

/-- Section 10.2 at 5: the second is refused with RECALLED. -/
theorem test_convert_recalled :
    let s := running 5 302 (leases102 (some ⟨.release, .conflict, 1, 100⟩))
      [waits 3 7 20000 64 .exclusive 2000 .recalling (.convert 5)]
    let t := left (exec (.convert 4) (asking s 4 .convert 2 (convertBody 302 2 2000)))
    (t.link 4).replies.filled = [⟨2, .refused .recalled⟩] := by decide +kernel

/-- R14: a record that starts before the extent is shown; the resume position passes one over. -/
theorem test_query :
    let s := asking (running 30 202 leases101) 3 .query 1 (beBytes 6 6060 ++ beBytes 3 5 ++ beBytes 6 6001)
    ((left (exec (.query 3) s)).link 3).replies.filled =
      [⟨1, .queryResult [⟨202, 1, .shared, false, ⟨6050, 20⟩⟩] false⟩] := by decide +kernel

/-! ## Closing frames, deadlines -/

/-- Section 10.1 at 170: the last conflicting record goes and E1 is granted in slot 0 with token 203. -/
theorem test_release :
    let s := running 170 202 [lease 0 201 0 6000 100 .shared (some ⟨.release, .conflict, 2, 330⟩)]
      [waits 2 0 6040 40 .exclusive 1030 .recalling]
    let t := left (exec (.release 0) (closing s 0 .release 0 (beBytes 8 201)))
    t.grantTable = ⟨[lease 0 203 2 6040 40 .exclusive], 203⟩ ∧ t.waitList = [] ∧
    (t.link 2).replies = ⟨0, [⟨0, .granted 203 ⟨6040, 40⟩ .exclusive⟩]⟩ ∧ (t.member 0).window = [.recalled] := by
  decide +kernel

/-- The example of section 2.4: E1 is granted the freed slot, E2 recalls it, with no slot left for E3. -/
theorem test_release_walk :
    let s := running 1000 9090 [lease 7 41 1 2000 100 .exclusive (some ⟨.downgrade, .conflict, 1, 1050⟩)]
      [waits 2 4 2000 50 .shared 9999 .recalling, waits 3 0 2040 20 .exclusive 9999 (.queued .earlier)]
    let t := left (exec (.release 1) (closing s 1 .release 0 (beBytes 8 41)))
    t.grantTable = ⟨[lease 0 9091 2 2000 50 .shared (some ⟨.release, .conflict, 1, 1100⟩)], 9091⟩ ∧
    t.waitList = [waits 3 0 2040 20 .exclusive 9999 .recalling] := by decide +kernel

/-- Section 10.1 at 90: DOWNGRADE of a SHARED record is a late frame. -/
theorem test_downgrade_late :
    let s := running 90 202 [lease 0 201 0 6000 100 .shared recall101]
    let t := left (exec (.downgrade 0) (closing s 0 .downgrade 0 (beBytes 8 201)))
    (t.session 0).counters.lateFrames = 1 ∧ t.grantTable = s.grantTable := by decide +kernel

/-- Section 10.2, second sequence, at 40: E1 granted in slot 7, E2 RECALLING, E3 refused with RECALLED. -/
theorem test_downgrade_walk :
    let s := running 40 305
      [lease 5 301 3 20000 64 .shared, lease 6 302 4 20000 64 .shared,
       lease 9 305 7 20150 10 .exclusive (some ⟨.downgrade, .conflict, 1, 100⟩),
       lease 0 1 0 30000 1 .shared, lease 1 2 0 30001 1 .shared, lease 2 3 0 30002 1 .shared,
       lease 3 4 0 30003 1 .shared, lease 4 5 0 30004 1 .shared]
      [waits 6 4 20000 200 .shared 5000 .recalling,
        waits 4 2 20000 64 .exclusive 2010 (.queued .earlier) (.convert 6),
       waits 3 7 20000 64 .exclusive 2020 (.queued .earlier) (.convert 5)]
    let t := left (exec (.downgrade 7) (closing s 7 .downgrade 0 (beBytes 8 305)))
    t.grantTable.records.take 4 =
      [lease 5 301 3 20000 64 .shared (some ⟨.release, .conflict, 1, 140⟩), lease 6 302 4 20000 64 .shared,
       lease 7 306 6 20000 200 .shared (some ⟨.release, .conflict, 1, 140⟩), lease 9 305 7 20150 10 .shared] ∧
    t.waitList = [waits 4 2 20000 64 .exclusive 2010 .recalling (.convert 6)] ∧
    (t.link 3).replies.filled = [⟨7, .refused .recalled⟩] := by decide +kernel

/-- R49: the entry of the header tag is answered CANCELLED; its recalls stand. -/
theorem test_cancel :
    let s := running 50 202 [lease 0 201 0 6000 100 .shared recall101] [waits 2 0 6040 40 .exclusive 1030 .recalling]
    let t := left (exec (.cancel 2) (closing s 2 .cancel 0 []))
    t.waitList = [] ∧ t.grantTable = s.grantTable ∧ (t.link 2).replies = ⟨0, [⟨0, .refused .cancelled⟩]⟩ := by
  decide +kernel

/-- R90, and section 10.3 at 2,600: against a FENCED session it is a late frame. -/
theorem test_keepalive :
    let s := running 2600 7 []
    ((left (exec (.keepalive 1) (closing s 1 .keepalive 0 []))).session 1).state = .active 4600 ∧
    ((left (exec (.keepalive 1) (closing (withSession s 1 { s.session 1 with state :=
      .fenced }) 1 .keepalive 0 []))).session
      1).counters.lateFrames = 1 := by decide +kernel

/-- Section 10.1 at 1,030: E1 times out and its recall stands. -/
theorem test_waitDeadline :
    let s := running 1030 202 [lease 0 201 0 6000 100 .shared recall101] [waits 2 0 6040 40 .exclusive 1030 .recalling]
    let t := left (exec (.waitDeadline 2 0) s)
    t.waitList = [] ∧ (t.link 2).replies.filled = [⟨0, .refused .timedOut⟩] ∧ t.grantTable = s.grantTable := by
  decide +kernel

/-- The table of section 3.4 with T_r at 100: intervals 200 after attempt 2 and, capped, 6,400 after attempt 8. -/
theorem test_recallDeadline_backoff :
    let at_ (attempts : Nat) : State :=
      let s := running 130 202 [lease 0 201 0 6000 100 .shared (some ⟨.release, .conflict, attempts, 130⟩)]
      { s with management := { s.management with params := ⟨1000000, 2000, 100, 8, 8⟩ } }
    (left (exec (.recallDeadline 0) (at_ 1))).grantTable.records =
      [lease 0 201 0 6000 100 .shared (some ⟨.release, .conflict, 2, 330⟩)] ∧
    (left (exec (.recallDeadline 0) (at_ 7))).grantTable.records =
      [lease 0 201 0 6000 100 .shared (some ⟨.release, .conflict, 8, 6530⟩)] := by decide +kernel

/-- Section 10.3 at 2,550: agent 1 is fenced and E0 is granted slot 1 with token 412. -/
theorem test_recallDeadline_fences :
    let s := running 2550 411
      [lease 2 410 1 3000 8 .exclusive (some ⟨.release, .conflict, 4, 2550⟩), lease 0 405 3 7000 20 .exclusive,
       lease 3 411 1 9000 4 .shared]
      [waits 2 0 3000 8 .exclusive 4000 .recalling, waits 1 6 7005 5 .shared 7000 .recalling]
    let t := left (exec (.recallDeadline 2) s)
    t.grantTable.records = [lease 1 412 2 3000 8 .exclusive, lease 0 405 3 7000 20 .exclusive] ∧ t.waitList = [] ∧
    t.reportQueue.reports = [.fenced 1 .recallTimeout 1 2 1] ∧ (t.session 1).fenceCause = .recallTimeout := by
  decide +kernel

/-! ## Sweeps (section 5.11) -/

/-- The DEMOTE sweep of section 5.11. -/
def sweep511 (phase : SweepPhase) (tallies : Tallies) : Sweep := ⟨7, .demote, ⟨10000, 1000⟩, 0x06#8, phase, tallies⟩

/-- Section 5.11 at 2: token 30 is examined, recalled for DOWNGRADE until 102 and pending. -/
theorem test_sweepStep :
    let s := { running 2 33 [lease 5 29 1 100 10 .exclusive, lease 4 30 1 9500 600 .exclusive] with
      sweep := some (sweep511 (.scanning (.after 100 5)) .zero) }
    let t := left (exec .sweepStep s)
    t.grantTable.records = [lease 5 29 1 100 10 .exclusive,
      lease 4 30 1 9500 600 .exclusive (some ⟨.downgrade, .sweep, 1, 102⟩) true] ∧
    t.sweep = some (sweep511 (.scanning (.after 9500 4)) ⟨1, 1, 0, 0, 0, 0, 1⟩) := by decide +kernel

/-- Section 5.11 at 150: the RELEASE of the last pending record completes the sweep,
  lifts the barrier and lets E1 through,
which E2 then recalls. -/
theorem test_release_completes_sweep :
    let s := { running 150 34 [lease 4 30 1 9500 600 .exclusive (some ⟨.downgrade, .sweep, 2, 302⟩) true]
        [waits 1 0 10600 20 .exclusive 1004 (.queued .barrier),
          waits 4 0 10610 5 .shared 1004 (.queued .earlier)] with
      sweep := some (sweep511 .draining ⟨3, 2, 0, 1, 0, 1, 2⟩) }
    let t := left (exec (.release 1) (closing s 1 .release 0 (beBytes 8 30)))
    t.sweep = none ∧ t.reportQueue.reports = [.sweepDone 7 .complete ⟨3, 2, 1, 1, 0, 1, 2⟩] ∧
    t.grantTable.records = [lease 0 35 1 10600 20 .exclusive (some ⟨.downgrade, .conflict, 1, 250⟩)] ∧
    t.waitList = [waits 4 0 10610 5 .shared 1004 .recalling] := by decide +kernel

/-- Section 5.11 at 0: the cursor stands before (0, 0); the body is that of section 9.5. -/
theorem test_sweepStart :
    let t := left (exec .sweepStart (commanding (running 0 33 []) .sweepStart 1
      ([0, 7, 0x02] ++ beBytes 6 10000 ++ beBytes 3 1000 ++ [0x06])))
    t.sweep = some (sweep511 (.scanning (.before 0 0)) .zero) ∧ t.mgmtLink.replies.filled = [⟨1, .ok, .empty⟩] := by
  decide +kernel

/-- R114: the recall of a pending record stands, its flag is cleared. -/
theorem test_sweepAbort :
    let rc : RecallRecord := ⟨.downgrade, .sweep, 1, 102⟩
    let s := { running 9 33 [lease 4 30 1 9500 600 .exclusive rc true] with
      sweep := some (sweep511 .draining ⟨3, 2, 0, 0, 0, 1, 2⟩) }
    let t := left (exec .sweepAbort (commanding s .sweepAbort 1 []))
    t.sweep = none ∧ t.grantTable.records = [lease 4 30 1 9500 600 .exclusive rc] ∧
    t.reportQueue.reports = [.sweepDone 7 .aborted ⟨3, 2, 0, 0, 0, 1, 2⟩] := by decide +kernel

/-! ## Management commands -/

/-- A CONFIGURE body of section 9.5: V = 1,000,000, L = 2,000, T_r = 100, N_r = 4, report window 8, mask 0x05,
  agent 1 in
group 1, group 0 with W 4 and C 3 and notify on, token floor 500. -/
def configureBody (lease threshold : Nat) : List Byte :=
  beBytes 8 1000000 ++ beBytes 2 lease ++ beBytes 2 100 ++ [4, 8, 0x05] ++ [0, 1, 0, 0, 0, 0, 0, 0] ++
    [1, 4] ++ beBytes 1 threshold ++ [1, 1, 16, 8, 0] ++ beBytes 8 500

/-- The part before CONFIGURE, LI-M in RUN. -/
def unconfigured : State :=
  { State.reset with
    mgmtLink := { MgmtLink.powerOn with linkState := .run, command := ⟨[], 4, 0⟩ }
    agentLinks := (running 0 0 []).agentLinks }

/-- R162. -/
theorem test_configure :
    let t := left (exec .configure (commanding unconfigured .configure 1 (configureBody 2000 3)))
    t.management = ⟨.running, ⟨1000000, 2000, 100, 4, 8⟩⟩ ∧ t.grantTable.counter = 500 ∧
    ((t.session 0).admitFlag, (t.session 1).admitFlag, (t.session 2).admitFlag) = (true, false, true) ∧
    (t.session 1).group = 1 ∧ t.churn.groups.get 0 = ⟨true, 4, 3, true⟩ ∧ t.mgmtLink.reportCredit = 8 :=
      by decide +kernel

/-- R118: a C above its W refuses the whole CONFIGURE. -/
theorem test_configure_bad :
    (left (exec .configure (commanding unconfigured .configure 1 (configureBody 2000 5)))).mgmtLink.replies.filled =
      [⟨1, .badParam, .empty⟩] := by decide +kernel

/-- Agent 2 of section 6.8 at 900, with the settings in force before. -/
def churn68 : State :=
  let s := running 900 7 []
  { s with churn :=
    { groups := ⟨⟨true, 4, 3, true⟩, .powerOn⟩
      members := s.churn.members.set 2 ⟨[.recalled, .recalled, .recalled, .voluntary], true⟩ } }

/-- Section 6.8 at 900: C of group 0 becomes 2 and the window is cleared; the alarm stays as it was. -/
theorem test_setParam :
    let t := left (exec .setParam (commanding churn68 .setParam 1 ([0x07, 0] ++ beBytes 8 2)))
    (t.churn.groups.get 0).threshold = 2 ∧ t.member 2 = ⟨[], true⟩ := by decide +kernel

/-- Section 6.8 at 400: three of four RECALLED raise the alarm, the report and the notice. -/
theorem test_release_alarm :
    let s := { churn68 with
      churn :=
        { churn68.churn with
          members := churn68.churn.members.set 2 ⟨[.voluntary, .recalled, .recalled], false⟩ }
      grantTable := ⟨[lease 0 7 2 10 5 .shared recall101], 7⟩ }
    let t := left (exec (.release 2) (closing s 2 .release 0 (beBytes 8 7)))
    t.member 2 = ⟨[.voluntary, .recalled, .recalled, .recalled], true⟩ ∧
    t.reportQueue.reports = [.churnAlarm 2 0 3 4] ∧ (t.link 2).control = [.notice .churnHigh 1] := by decide +kernel

/-- Section 6.8 at 600: the alarm is cleared, the window kept. -/
theorem test_ackChurn :
    (left (exec .ackChurn (commanding churn68 .ackChurn 1 [2]))).member 2 =
      ⟨[.recalled, .recalled, .recalled, .voluntary], false⟩ := by decide +kernel

/-- R96: ADMIT makes a FENCED agent OFFLINE. -/
theorem test_admit :
    let s := running 9 7 []
    let t := left (exec .admitAgent (commanding
      (withSession s 4 { s.session 4 with state := .fenced, admitFlag := false }) .admitAgent 1 [4]))
    (t.session 4).state = .offline ∧ (t.session 4).admitFlag = true := by decide +kernel

/-- Section 10.4 at 200: the fencing completes the sweep first, and its report stands before FENCED. -/
theorem test_evict :
    let rc : RecallRecord := ⟨.release, .sweep, 2, 301⟩
    let s := { running 200 520 [lease 1 511 2 40000 500 .shared rc true, lease 0 515 2 40800 100 .exclusive rc true,
        lease 3 520 0 41500 50 .exclusive]
        [waits 6 1 40600 10 .shared 2003 (.queued .barrier),
          waits 4 0 40605 2 .exclusive 2003 (.queued .earlier)] with
      sweep := some ⟨21, .revoke, ⟨40000, 1000⟩, 0x44#8, .draining, ⟨3, 3, 1, 0, 0, 2, 1⟩⟩ }
    let t := left (exec .evict (commanding s .evict 1 [2]))
    t.reportQueue.reports = [.sweepDone 21 .complete ⟨3, 3, 1, 0, 2, 2, 1⟩, .fenced 2 .evicted 1 2 0] ∧
    t.grantTable.records = [lease 0 521 6 40600 10 .shared (some ⟨.release, .conflict, 1, 300⟩),
      lease 3 520 0 41500 50 .exclusive] ∧
    t.waitList = [waits 4 0 40605 2 .exclusive 2003 .recalling] := by decide +kernel

/-- R161. -/
theorem test_pause : (left (exec .pause (commanding (running 9 7 []) .pause 1 []))).management.state = .paused ∧
    (left (exec .pause (commanding unconfigured .pause 1 []))).mgmtLink.replies.filled = [⟨1, .wrongState,
      .empty⟩] := by
  decide +kernel

theorem test_resume :
    let s := left (exec .pause (commanding (running 9 7 []) .pause 1 []))
    (left (exec .resume (commanding s .resume 1 []))).management.state = .running := by decide +kernel

/-- R167, with the descriptor of section 9.4. -/
theorem test_queryExtent :
    let t := left (exec .queryExtent (commanding (running 30 202 leases101) .queryExtent 1
      (beBytes 6 6000 ++ beBytes 3 10 ++ beBytes 6 0)))
    t.mgmtLink.replies.filled.map MgmtReply.body =
      [[0, 1, 0, 0, 0, 0, 0, 0, 0, 0, 201, 0, 1, 1, 0, 0, 0, 0, 0x17, 0x70, 0, 0, 100]] := by decide +kernel

/-- R168, the 23 bytes of section 9.5: ACTIVE, epoch 1, admitted, one record under recall. -/
theorem test_queryAgent :
    let s := running 30 202 [lease 0 201 0 6000 100 .shared recall101]
    let t := left (exec .queryAgent (commanding s .queryAgent 1 [0]))
    t.mgmtLink.replies.filled.map MgmtReply.body =
      [[0, 1, 0, 0, 0, 1, 1, 0, 0, 1, 0, 1, 0, 0, 0, 0, 0, 2, 0, 0, 0, 0, 0, 0]] := by decide +kernel

/-- Section 10.5 at 11,100. -/
theorem test_reportResume :
    let t := left (exec .reportResume (commanding { running 11100 7 [] with reportQueue :=
      ⟨[], false, true, 3⟩ } .reportResume 1 []))
    t.reportQueue = ⟨[], false, false, 0⟩ ∧ t.mgmtLink.replies.filled = [⟨1, .ok, .lost 3⟩] := by decide +kernel

/-- R157, R182. -/
theorem test_reportAck :
    let l := (left (exec .reportAck (commanding (running 9 7 []) .reportAck 0 []))).mgmtLink
    l.command = ⟨[], 3, 1⟩ ∧ l.replies = ⟨0, []⟩ ∧ l.counters.protocolErrors = 0 := by decide +kernel

/-- R169: the read counters are those before clearing. -/
theorem test_readCounters :
    let s := running 9 7 []
    let x := withSession s 3 { s.session 3 with counters := ⟨1, 2, 3, 4, 5, 6, 7⟩ }
    let t := left (exec .readCounters (commanding x .readCounters 1 [3, 1]))
    t.mgmtLink.replies.filled = [⟨1, .ok, .agentCounters ⟨1, 2, 3, 4, 5, 6, 7⟩⟩] ∧
    (t.session 3).counters = ⟨0, 0, 0, 0, 0, 0, 0⟩ := by decide +kernel

/-- R171. -/
theorem test_resetDirectory :
    let s := { running 9 34 [lease 4 30 1 9500 600 .exclusive (some ⟨.downgrade, .sweep, 2, 302⟩) true]
        [waits 1 0 10600 20 .exclusive 1004 (.queued .barrier)] with
      sweep := some (sweep511 .draining ⟨3, 2, 0, 1, 0, 1, 2⟩) }
    let t := left (exec .resetDirectory (commanding s .resetDirectory 1 []))
    t.grantTable = ⟨[], 34⟩ ∧ t.waitList = [] ∧ t.sweep = none ∧ (t.session 1).state = .offline ∧
    t.reportQueue.reports = [.sweepDone 7 .aborted ⟨3, 2, 0, 1, 0, 1, 2⟩] ∧
    (t.link 1).replies = ⟨0, [⟨0, .refused .directoryReset⟩]⟩ ∧ (t.link 1).control = [.notice .directoryReset 1] := by
  decide +kernel

/-! ## A state with something of everything

It meets every law at once, and stands as the witness of the invariant obligations. -/

def busy : State :=
  let s := running 1000 9
    [lease 0 5 0 100 50 .exclusive (some ⟨.release, .conflict, 2, 1200⟩),
     lease 2 7 1 300 20 .shared (some ⟨.release, .sweep, 1, 1050⟩) true, lease 1 6 2 310 20 .shared]
    [waits 1 3 120 10 .shared 1500 .recalling, waits 3 31 125 10 .exclusive 1600 (.queued .earlier),
     waits 2 0 310 20 .exclusive 1700 .recalling (.convert 1)]
  let l := s.link 3
  { asking s 6 .query 0 [] with
    sendLists := (PerAgent.const []).set 0 [⟨5, ⟨100, 50⟩, .release, 2⟩]
    sweep := some ⟨9, .revoke, ⟨300, 5⟩, 0x02#8, .scanning (.after 300 2), ⟨1, 1, 0, 0, 0, 1, 0⟩⟩
    churn := { s.churn with members := s.churn.members.set 0 ⟨[.recalled, .voluntary], true⟩ }
    reportQueue := ⟨[.churnAlarm 0 0 8 16], true, true, 3⟩
    agentLinks := (asking s 6 .query 0 []).agentLinks.set 3 { l with
      control := [.notice .churnHigh 1, .syncAck 16 8], replies := ⟨1, [⟨2, .refused .conflict⟩]⟩ }
    pending := [.sweepStep] }

theorem test_busy_deadlines : DeadlineLaw busy := by
  refine ⟨by decide +kernel, ?_, ?_⟩
  · have : ∀ r ∈ busy.grantTable.records, (r.recallRecord.all fun rc => busy.timeBase ≤ rc.deadline) = true := by
      decide +kernel
    intro r hr rc h
    have := this r hr; rw [h] at this; simpa using this
  · have : ∀ a, (busy.session a).state = .active 100000 := by decide +kernel
    intro a d h; rw [this a] at h; cases h; decide +kernel
theorem test_busy_steps : ∃ t, step busy = .next t := ⟨_, rfl⟩

theorem test_busy_counts : TimeLaw busy ∧ ReportQueueLaw busy ∧ ControlLaneLaw busy ∧ WaitListLaw busy := by
  unfold TimeLaw ReportQueueLaw ControlLaneLaw WaitListLaw; decide +kernel
theorem test_busy_credit : IngressLaw busy ∧ EgressLaw busy ∧ ReplySlotLaw busy := by
  unfold IngressLaw EgressLaw ReplySlotLaw Safety.Balanced; decide +kernel
theorem test_busy_config : ParamLaw busy ∧ ChurnLaw busy ∧ UnconfiguredLaw busy := by
  unfold ParamLaw ChurnLaw UnconfiguredLaw; decide +kernel
theorem test_busy_index : IndexLaw busy := by unfold IndexLaw; decide +kernel
theorem busy_subjects : ∀ e ∈ busy.waitList, SubjectWaits busy e := by
  intro e he
  simp only [busy, running, asking, withLink, List.mem_cons, List.not_mem_nil, or_false] at he
  rcases he with rfl | rfl | rfl
  · trivial
  · trivial
  · exact ⟨rfl, by decide +kernel⟩
theorem test_busy_tables : TableLaw busy := by
  refine ⟨⟨test_busy_index, ?_, ?_, ?_, busy_subjects⟩, ?_, test_busy_config.2.2⟩
  · unfold NoConflict Compatible; decide +kernel
  · decide +kernel
  · unfold EntryClearOfRecord; decide +kernel
  · unfold ExtentLaw; decide +kernel
theorem test_busy_sessions : SessionLaw busy ∧ EpochLaw busy := by
  have h : ∀ a : AgentId, (busy.session a).state = .active 100000 ∧ (busy.session a).epoch = 1 ∧
    (busy.session a).admitFlag = true := by decide +kernel
  refine ⟨⟨fun r hr => ⟨⟨_, (h _).1⟩, ?_⟩, fun e he => ⟨⟨_, (h _).1⟩, ?_⟩, fun a _ => ⟨⟨_, (h a).1⟩, rfl⟩⟩,
    fun a => ⟨?_, fun d _ => ⟨?_, (h a).2.2⟩⟩⟩
  · revert r; decide +kernel
  · revert e; decide +kernel
  · rw [(h a).2.1]; decide
  · rw [(h a).2.1]
theorem test_busy_recalls : RecallLaw busy ∧ SendListLaw busy ∧ SweepLaw busy := by
  refine ⟨?_, ?_, ?_⟩
  · intro r hr rc
    have : ∀ r ∈ busy.grantTable.records, (r.recallRecord.all fun rc => decide (1 ≤ rc.attempts ∧ rc.attempts ≤ 8 ∧
      (rc.wanted = .downgrade → r.mode = .exclusive))) = true := by decide +kernel
    intro h; have := this r hr; rw [h] at this; simpa [imp_iff_not_or] using this
  · have : ∀ a : AgentId, a ≠ 0 → busy.sendList a = [] := by decide +kernel
    intro a
    by_cases h : a = 0
    · subst h
      refine ⟨by decide +kernel, fun m hm => ?_⟩
      have hm' : m = ⟨5, ⟨100, 50⟩, .release, 2⟩ := by
        revert hm; show m ∈ [_] → _; simp
      subst hm'
      exact ⟨lease 0 5 0 100 50 .exclusive (some ⟨.release, .conflict, 2, 1200⟩), by decide +kernel, rfl, rfl, rfl,
        _, rfl, rfl, rfl⟩
    · rw [this a h]; simp
  · constructor
    · intro r hr hp
      refine ⟨_, rfl, by decide, ?_⟩
      have : r = lease 2 7 1 300 20 .shared (some ⟨.release, .sweep, 1, 1050⟩) true := by
        revert r; decide +kernel
      subst this; exact ⟨_, rfl, fun _ => rfl⟩
    · intro w hw; cases hw; intro h; cases h
theorem busy_places {P : Nat → WaitEntry → Prop} (h0 : P 0 (waits 1 3 120 10 .shared 1500 .recalling))
    (h1 : P 1 (waits 3 31 125 10 .exclusive 1600 (.queued .earlier)))
    (h2 : P 2 (waits 2 0 310 20 .exclusive 1700 .recalling (.convert 1))) :
    ∀ place e, busy.waitList[place]? = some e → P place e
  | 0, _, h => by cases h; exact h0
  | 1, _, h => by cases h; exact h1
  | 2, _, h => by cases h; exact h2
  | _ + 3, _, h => by cases h
theorem test_busy_waiting : RecallingEntryLaw busy ∧ NoneGrantable busy := by
  constructor
  · refine busy_places (fun _ => ⟨by decide +kernel, ?_⟩) (fun h => by cases h) (fun _ => ⟨by decide +kernel, ?_⟩)
    · intro r hr hc
      have : r = lease 0 5 0 100 50 .exclusive (some ⟨.release, .conflict, 2, 1200⟩) := by revert r; decide +kernel
      subst this; exact ⟨_, rfl, fun _ => rfl⟩
    · intro r hr hc
      have : r = lease 2 7 1 300 20 .shared (some ⟨.release, .sweep, 1, 1050⟩) true := by revert r; decide +kernel
      subst this; exact ⟨_, rfl, fun _ => rfl⟩
  · exact busy_places (by decide +kernel) (by decide +kernel) (by decide +kernel)

/-! ## States that meet the hypotheses of the obligations

One theorem for each obligation that has hypotheses, each clause at a boundary where it has one. -/

/-- A state with two leases and nothing waiting. -/
def quiet : State := running 1000 202 leases101

/-- An ACQUIRE as the buffer holds it. -/
def acquireFrame (tag : Nat) (body : List Byte) (epoch : Nat := 1) : Frame AnswerableKind :=
  ⟨.acquire, tag, epoch, body⟩

theorem not_cited {s : State} {a : AgentId} {t : Nat} (h : ∀ r ∈ s.grantTable.records, r.token ≠ t) :
    ∀ r, ¬Cites s a t r := fun r hc => h r hc.1 hc.2.1

theorem index_quiet : IndexLaw quiet := by unfold IndexLaw; decide +kernel

theorem test_hyp_StepRunsFrontCommand : busy.pending = Instr.sweepStep :: [] ∧ quiet.pending = [] := by decide +kernel

/-- No deadline at all, one below the end of the count and at it; and one due of each kind. -/
theorem test_hyp_PowerOnAndTick :
    (∀ n ∈ [2 ^ 64 - 2, 2 ^ 64 - 1], let s := { State.reset with timeBase := n }
      s.waitList = [] ∧ s.grantTable.records = [] ∧ ∀ a, (s.session a).state = .offline) ∧
    (let s (n : Nat) : State := { busy with timeBase := n }
     (∃ e ∈ (s 1500).waitList, e.deadline = (s 1500).timeBase) ∧
     (∃ r ∈ (s 1200).grantTable.records, (r.recallRecord.any fun rc => rc.deadline = (s 1200).timeBase) = true) ∧
     ∃ a : AgentId, ((s 100000).session a).state = .active (s 100000).timeBase) := by decide +kernel

/-- A deadline one below and one above the count, and a count that a late deadline has been left behind by. -/
theorem test_hyp_NotEnabledChangesNothing :
    (busy.link 6).answerable.frames.head?.map Frame.kind ≠ some .join ∧
    (quiet.link 0).closing.frames.head?.map Frame.kind ≠ some .release ∧
    quiet.mgmtLink.command.frames.head?.map Frame.kind ≠ some .pause ∧
    (∀ n ∈ [1499, 1501], ∀ e ∈ busy.waitList, e.agent = 1 → e.tag = 3 →
      e.deadline ≠ ({ busy with timeBase := n } : State).timeBase) ∧
    (∀ r ∈ quiet.grantTable.records, r.slot = 0 → r.recallRecord = none) ∧
    (quiet.session 0).state ≠ .active quiet.timeBase ∧ quiet.sweep = none ∧
    (quiet.link 0).linkState ≠ .down ∧ quiet.mgmtLink.linkState ≠ .down ∧ (State.reset.link 0).linkState = .down ∧
    State.reset.mgmtLink.linkState = .down ∧ (State.reset.link 0).linkState ≠ .run ∧
    (({ quiet.link 0 with transmitter := .busy [] } : AgentLink).transmitter ≠ .idle) ∧
    (({ quiet.mgmtLink with transmitter := .busy [] } : MgmtLink).transmitter ≠ .idle) := by decide +kernel

theorem test_hyp_CountsStayBounded : ∃ t, step busy = .next t ∧ DeadlineLaw busy ∧ TimeLaw busy ∧
    ReportQueueLaw busy ∧ ControlLaneLaw busy ∧ WaitListLaw busy := ⟨_, rfl, test_busy_deadlines, test_busy_counts⟩
theorem test_hyp_CreditStaysAccounted : ∃ t, step busy = .next t ∧ IngressLaw busy ∧ EgressLaw busy :=
  ⟨_, rfl, test_busy_credit.1, test_busy_credit.2.1⟩
theorem test_hyp_ReplySlotsStayAccounted : ∃ t, ReplySlotLaw busy ∧ step busy = .next t :=
  ⟨_, test_busy_credit.2.2, rfl⟩
theorem test_hyp_ConfigurationStaysSound : ∃ t, step busy = .next t ∧ ParamLaw busy ∧ ChurnLaw busy ∧
  UnconfiguredLaw busy :=
  ⟨_, rfl, test_busy_config⟩
theorem test_hyp_IndexStaysOrdered : ∃ t, IndexLaw busy ∧ step busy = .next t := ⟨_, test_busy_index, rfl⟩
theorem test_hyp_LeasesNeverConflict : ∃ t, TableLaw busy ∧ step busy = .next t := ⟨_, test_busy_tables, rfl⟩
theorem test_hyp_SessionsOwnTheirTables : ∃ t, step busy = .next t ∧ SessionLaw busy ∧ UnconfiguredLaw busy ∧
  EpochLaw busy :=
  ⟨_, rfl, test_busy_sessions.1, test_busy_config.2.2, test_busy_sessions.2⟩
theorem test_hyp_RecallsAndMessagesStaySound : ∃ t, step busy = .next t ∧ (IndexLaw busy ∧ ParamLaw busy ∧
  RecallLaw busy) ∧
    TableLaw busy ∧ SendListLaw busy :=
  ⟨_, rfl, ⟨test_busy_index, test_busy_config.1, test_busy_recalls.1⟩, test_busy_tables, test_busy_recalls.2.1⟩
theorem test_hyp_PendingSetStaysSound : ∃ t, IndexLaw busy ∧ SweepLaw busy ∧ step busy = .next t :=
  ⟨_, test_busy_index, test_busy_recalls.2.2, rfl⟩
theorem test_hyp_RecallingEntriesHaveTheirRecalls : ∃ t, TableLaw busy ∧ RecallingEntryLaw busy ∧
  step busy = .next t :=
  ⟨_, test_busy_tables, test_busy_waiting.1, rfl⟩
theorem test_hyp_NothingGrantableWaits : ∃ t, TableLaw busy ∧ NoneGrantable busy ∧ step busy = .next t :=
  ⟨_, test_busy_tables, test_busy_waiting.2, rfl⟩
theorem test_hyp_TokensOnlyGrow : ∃ t, Instr.sweepStep ≠ .powerOn ∧ exec .sweepStep busy = .next t :=
  ⟨_, by decide, rfl⟩

/-- At the head and behind another entry: grantable, as ACQUIRE with token 2^64 - 1 next and as CONVERT; behind an entry that
conflicts; barred; records in the way; no room. -/
theorem test_hyp_WalkDecidesAndChangesOnlyItsOwn :
    let front := waits 7 9 900 1 .shared 9 .recalling
    let behind (s : State) (e : WaitEntry) (place : Nat) (o : Option Obstacle) : Prop :=
      s.waitList[place]? = some e ∧ s.obstacle (s.waitList.take place) e.claim = o
    (let e := waits 2 0 5 5 .shared 9 (.queued .earlier)
     let s := running 0 (2 ^ 64 - 2) leases101 [front, e]
     behind s e 1 none ∧ e.kind = .acquire ∧ LowestFree s 2) ∧
    (let e := waits 0 0 6000 100 .exclusive 9 .recalling (.convert 0)
     let s := running 0 201 [lease 0 201 0 6000 100 .shared] [e]
     behind s e 0 none ∧ lease 0 201 0 6000 100 .shared ∈ s.grantTable.records ∧ e.kind = .convert 0) ∧
    (let e := waits 2 0 900 5 .exclusive 9 (.queued .barrier)
     behind (running 0 202 leases101 [front, e]) e 1 (some .earlier) ∧ e.state ≠ .recalling) ∧
    (∀ state ∈ [EntryState.queued .earlier, .recalling],
      (let e := waits 1 0 10600 20 .exclusive 9 state
       behind { running 0 33 [] [front, e] with sweep := some (sweep511 .draining .zero) } e 1 (some .barrier)) ∧
      (let e := waits 2 0 6040 40 .exclusive 9 state
       behind (running 0 202 leases101 [front, e]) e 1 (some .records)) ∧
      (let e := waits 2 0 5 5 .shared 9 state
       behind (running 0 (2 ^ 64 - 1) leases101 [front, e]) e 1 (some .room))) := by decide +kernel

theorem test_hyp_WalkDecidesAndChangesOnlyItsOwn_index : IndexLaw (running 0 201 [lease 0 201 0 6000 100 .shared]
    [waits 0 0 6000 100 .exclusive 9 .recalling (.convert 0)]) := by unfold IndexLaw; decide +kernel

theorem test_hyp_SignalMovesLinks : (State.reset.link 0).linkState = .down ∧ (quiet.link 0).linkState ≠ .down ∧
    (link106.link 2).linkState ≠ .down ∧ State.reset.mgmtLink.linkState = .down ∧
      quiet.mgmtLink.linkState ≠ .down := by decide +kernel

/-- The last unit of credit of each class, and the frame of section 9.7. -/
theorem test_hyp_FrameJoinsItsBuffer :
    let s := withLink quiet 5 { quiet.link 5 with answerable := ⟨[], 1, 15⟩, closing := ⟨[], 1, 7⟩ }
    let body := acquireBody 4096 256 2 500
    (s.link 5).linkState = .run ∧ checkFrame (frameBytes 0x12 3 7 2 0 body) = .wellFormed ⟨0x12, 3, 7, 2, body⟩ ∧
    agentClass 0x12 = .answerable .acquire ∧ 0 < (s.link 5).answerable.outstanding ∧
    checkFrame (frameBytes 0x23 255 7 2 0 []) = .wellFormed ⟨0x23, 255, 7, 2, []⟩ ∧
    agentClass 0x23 = .closing .cancel ∧ 0 < (s.link 5).closing.outstanding := by decide +kernel

/-- 13 and 271 bytes, a length field that disagrees, a bad check value, no credit, an unknown kind,
  SYNC without and with
two body bytes. -/
theorem test_hyp_BadFramesInRun :
    let s := withLink quiet 5 { quiet.link 5 with answerable := ⟨[], 0, 16⟩, closing := ⟨[], 0, 8⟩ }
    (quiet.link 5).linkState = .run ∧ (s.link 5).linkState = .run ∧
    checkFrame (beBytes 13 0) = .framingFault ∧ checkFrame (beBytes 271 0) = .framingFault ∧
    checkFrame (closeFrame (headerOf 0x24 0 1 1 0 0)) = .framingFault ∧ checkFrame (beBytes 14 0) = .crcFailure ∧
    (s.link 5).answerable.outstanding = 0 ∧ (s.link 5).closing.outstanding = 0 ∧
    agentClass 0x15 = .answerable .leave ∧ agentClass 0x24 = .closing .keepalive ∧
    checkFrame (frameBytes 0x15 0 1 0 0 []) = .wellFormed ⟨0x15, 0, 1, 0, []⟩ ∧
    checkFrame (frameBytes 0x24 0 1 0 0 []) = .wellFormed ⟨0x24, 0, 1, 0, []⟩ ∧
    checkFrame (frameBytes 0x16 0 1 0 0 []) = .wellFormed ⟨0x16, 0, 1, 0, []⟩ ∧ agentClass 0x16 = .unknown ∧
    0 < (quiet.link 5).closing.outstanding ∧
    checkFrame (frameBytes 0x01 0 1 0 0 []) = .wellFormed ⟨0x01, 0, 1, 0, []⟩ ∧
    checkFrame (frameBytes 0x01 0 1 0 0 [1, 2]) = .wellFormed ⟨0x01, 0, 1, 0, [1, 2]⟩ := by decide +kernel

/-- The frames of the last theorem, in DOWN and in WAIT_SYNC. -/
theorem test_hyp_FramesOutsideRun :
    let s := { quiet with mgmtLink := { quiet.mgmtLink with linkState := .waitSync } }
    (State.reset.link 0).linkState = .down ∧ State.reset.mgmtLink.linkState = .down ∧
    (link106.link 2).linkState = .waitSync ∧ s.mgmtLink.linkState = .waitSync ∧
    (0x16 : Nat) ≠ kindSync ∧ (0x01 : Nat) = kindSync := by decide +kernel

theorem test_hyp_GoodSyncRebuilds : (link106.link 2).linkState ≠ .down ∧ (quiet.link 2).linkState ≠ .down ∧
    checkFrame (frameBytes 1 0 1 0 0 [255]) = .wellFormed ⟨1, 0, 1, 0, [255]⟩ ∧ (1 : Nat) = kindSync ∧
    [(255 : Byte)].length = 1 := by decide +kernel

/-- A control frame; a reply alone and with a RECALL when the turn names it; a RECALL alone and by turn; nothing but credit
to return; nothing at all. -/
theorem test_hyp_AgentLinkSends :
    let r : TaggedReply := ⟨3, .refused .conflict⟩
    let m : RecallMessage := ⟨201, ⟨6000, 100⟩, .release, 1⟩
    let with_ (control : List ControlFrame) (filled : List TaggedReply) (turn : AgentTurn) : State :=
      { withLink quiet 0
          { quiet.link 0 with control := control, replies := ⟨0, filled⟩, turn := turn, recallCredit := 1 } with
        sendLists := quiet.sendLists.set 0 [m] }
    (∀ s ∈ [with_ [.syncAck 16 8] [r] .reply, with_ [] [r] .reply, with_ [] [r] .recallLane, with_ [] [] .reply,
      quiet],
      (s.link 0).linkState = .run ∧ (s.link 0).transmitter = .idle) ∧
    ((with_ [.syncAck 16 8] [r] .reply).link 0).control = .syncAck 16 8 :: [] ∧
    ((with_ [] [r] .reply).link 0).replies.filled = r :: [] ∧ ((with_ [] [r] .reply).link 0).turn = .reply ∧
    (with_ [] [r] .recallLane).sendList 0 = m :: [] ∧ 0 < ((with_ [] [r] .recallLane).link 0).recallCredit ∧
    ((with_ [] [r] .recallLane).link 0).turn = .recallLane ∧ ((with_ [] [] .reply).link 0).replies.filled = [] ∧
    (quiet.link 0).control = [] ∧ (quiet.link 0).replies.filled = [] ∧ quiet.sendList 0 = [] := by decide +kernel

/-- As on an agent link: the last unit of command credit, none, an unknown kind, SYNC with a bad body. -/
theorem test_hyp_MgmtFramesInRun :
    let s (n : Nat) : State := { quiet with mgmtLink := { quiet.mgmtLink with command := ⟨[], n, 4 - n⟩ } }
    (s 1).mgmtLink.linkState = .run ∧ (s 0).mgmtLink.linkState = .run ∧
    checkFrame (beBytes 13 0) = .framingFault ∧ checkFrame (beBytes 14 0) = .crcFailure ∧
    checkFrame (frameBytes 0xA1 0 0 8 0 []) = .wellFormed ⟨0xA1, 0, 0, 8, []⟩ ∧ mgmtClass 0xA1 = .command .reportAck ∧
    (0xA1 : Nat) ≠ kindSync ∧ (s 0).mgmtLink.command.outstanding = 0 ∧ 0 < (s 1).mgmtLink.command.outstanding ∧
    checkFrame (frameBytes 0x8F 0 0 0 0 []) = .wellFormed ⟨0x8F, 0, 0, 0, []⟩ ∧ mgmtClass 0x8F = .unknown ∧
    checkFrame (frameBytes 0x01 0 0 0 0 []) = .wellFormed ⟨0x01, 0, 0, 0, []⟩ := by decide +kernel

theorem test_hyp_MgmtGoodSyncRebuilds : quiet.mgmtLink.linkState ≠ .down ∧
    checkFrame (frameBytes 1 0 0 0 0 [16]) = .wellFormed ⟨1, 0, 0, 0, [16]⟩ ∧ (1 : Nat) = kindSync :=
      by decide +kernel

theorem test_hyp_MgmtLinkSends :
    let r := okReply 5
    let x : Report := .linkState .mgmt .run .sync
    let with_ (ack : Option Nat) (filled : List MgmtReply) (reports : List Report) (marker : Bool) (turn : MgmtTurn) : State :=
      { quiet with
        mgmtLink := { quiet.mgmtLink with syncAck := ack, replies := ⟨0, filled⟩, turn := turn, reportCredit := 1 }
        reportQueue := ⟨reports, marker, marker, 0⟩ }
    (∀ s ∈ [with_ (some 4) [r] [x] false .reply, with_ none [r] [x] false .reply, with_ none [r] [x] false .report,
        with_ none [r] [] true .report, quiet], s.mgmtLink.linkState = .run ∧ s.mgmtLink.transmitter = .idle) ∧
    (with_ (some 4) [r] [x] false .reply).mgmtLink.syncAck = some 4 ∧
    (with_ none [r] [x] false .reply).mgmtLink.replies.filled = r :: [] ∧
      (with_ none [r] [x] false .reply).mgmtLink.turn = .reply ∧
    (with_ none [r] [x] false .report).reportQueue.reports = x :: [] ∧
      0 < (with_ none [r] [x] false .report).mgmtLink.reportCredit ∧
    (with_ none [r] [x] false .report).mgmtLink.turn = .report ∧
      (with_ none [r] [] true .report).reportQueue.marker = true ∧
    quiet.mgmtLink.syncAck = none ∧ quiet.mgmtLink.replies.filled = [] ∧ quiet.reportQueue.reports = [] :=
      by decide +kernel

/-- 63 and 64 reports, a lost count below its end and at it; 15 and 16 NOTICE frames, a SYNC_ACK ahead of them. -/
theorem test_hyp_ReportsAndNoticesJoin :
    let q (n : Nat) (suspended : Bool) (lost : Nat) : ReportQueue :=
      ⟨List.replicate n (.linkState .mgmt .run .sync), false, suspended, lost⟩
    let lane (n : Nat) : List ControlFrame := .syncAck 16 8 :: List.replicate n (.notice .churnHigh 1)
    (q 63 false 0).reports.length < 64 ∧ 64 ≤ (q 64 false 0).reports.length ∧ (q 0 false 0).suspended = false ∧
    (q 0 true (2 ^ 32 - 2)).suspended = true ∧ (q 0 true (2 ^ 32 - 2)).lost < 2 ^ 32 - 1 ∧
    2 ^ 32 - 1 ≤ (q 0 true (2 ^ 32 - 1)).lost ∧
    (lane 15).countP ControlFrame.isNotice < 16 ∧ 16 ≤ (lane 16).countP ControlFrame.isNotice ∧
    lane 16 = [.syncAck 16 8] ++ .notice .churnHigh 1 :: List.replicate 15 (.notice .churnHigh 1) ∧
    ControlFrame.isNotice (.notice .churnHigh 1) = true ∧ ControlFrame.isNotice (.syncAck 16 8) = false := by
  decide +kernel

/-! ### Sessions -/

/-- `s` with agent `a`'s session in a state and its admit flag as given. -/
def sessionIn (s : State) (a : AgentId) (x : SessionState) (admitFlag : Bool := true) : State :=
  withSession s a { s.session a with state := x, admitFlag := admitFlag }

theorem test_hyp_SessionChecksRefuse :
    (let s := asking unconfigured 4 .query 0 []
     UnconfiguredLaw s ∧ AnswerableHead s 4 .query ⟨.query, 0, 1, []⟩ [] ∧ s.management.state = .unconfigured) ∧
    ∀ x ∈ [SessionState.offline, .fenced, .active 5],
      let s := asking (sessionIn quiet 4 x) 4 .leave 0 [] 2
      UnconfiguredLaw s ∧ AnswerableHead s 4 .leave ⟨.leave, 0, 2, []⟩ [] ∧ s.management.state ≠ .unconfigured ∧
      (s.session 4).state = x ∧ 2 ≠ (s.session 4).epoch := by unfold UnconfiguredLaw; decide +kernel

/-- Window 0 and 17, tag 32, no body, under the session's epoch and another. -/
theorem test_hyp_JoinRefused :
    (let s := asking unconfigured 4 .join 0 []
     UnconfiguredLaw s ∧ AnswerableHead s 4 .join ⟨.join, 0, 1, []⟩ [] ∧ s.management.state = .unconfigured) ∧
    ∀ f ∈ [(⟨.join, 0, 1, [0]⟩ : Frame AnswerableKind), ⟨.join, 0, 2, [17]⟩, ⟨.join, 32, 1, [16]⟩, ⟨.join, 31, 2,
      []⟩],
      (31 < f.tag ∨ f.body.length ≠ 1 ∨ field f.body 0 1 = 0 ∨ 16 < field f.body 0 1) ∧
      ∀ x ∈ [SessionState.offline, .fenced, .active 5], ∀ flag,
        let s := asking (sessionIn quiet 4 x flag) 4 .join f.tag f.body f.epoch
        UnconfiguredLaw s ∧ AnswerableHead s 4 .join f [] ∧ s.management.state ≠ .unconfigured ∧
        (s.session 4).state = x ∧ (s.session 4).admitFlag = flag ∧ (s.session 4).epoch = 1 := by
  unfold UnconfiguredLaw; decide +kernel

/-- The largest and the smallest window and tag, from the largest epoch and from 0. -/
theorem test_hyp_JoinStartsSession :
    ∀ q ∈ [(2 ^ 32 - 1, 31, 16), (0, 0, 1)],
      let f : Frame AnswerableKind := ⟨.join, q.2.1, 1, beBytes 1 q.2.2⟩
      let s := asking (withSession quiet 4 { quiet.session 4 with state := .offline, epoch :=
        q.1 }) 4 .join f.tag f.body
      AnswerableHead s 4 .join f [] ∧ JoinAsks f q.2.2 ∧ s.management.state ≠ .unconfigured ∧
      (s.session 4).state = .offline ∧ (s.session 4).admitFlag = true ∧ (s.session 4).epoch = q.1 := by decide +kernel

theorem index_same {s t : State} (h : IndexLaw s) (e : t.grantTable = s.grantTable) : IndexLaw t := by
  unfold IndexLaw at *; rw [e]; exact h

theorem test_hyp_JoinReplacesSession :
    let s := asking busy 1 .join 31 [16] 0
    IndexLaw s ∧ AnswerableHead s 1 .join ⟨.join, 31, 0, [16]⟩ [] ∧ JoinAsks ⟨.join, 31, 0, [16]⟩ 16 ∧
    s.management.state ≠ .unconfigured ∧ isActive (s.session 1).state = true :=
  ⟨index_same test_busy_index rfl, by decide +kernel, by decide +kernel, by decide +kernel, by decide +kernel⟩

/-- Tag 31 and tag 32. -/
theorem test_hyp_LeaveEndsSession : ∀ tag ∈ [31, 32],
    let s := asking busy 1 .leave tag []
    IndexLaw s ∧ AnswerableHead s 1 .leave ⟨.leave, tag, 1, []⟩ [] ∧ InSession s 1 1 := by
  unfold IndexLaw; decide +kernel

theorem test_hyp_LeaseExpiryFences :
    let s := { busy with timeBase := 100000 }
    IndexLaw s ∧ (s.session 1).state = .active 100000 ∧ 100000 = s.timeBase :=
  ⟨index_same test_busy_index rfl, by decide +kernel, by decide +kernel⟩

/-! ### Requests -/

/-- `quiet` with a full Wait List that stands in nobody's way. -/
def crowded : State := { quiet with waitList := List.replicate 128 (waits 7 0 900 1 .shared 9 .recalling) }

/-- An ACQUIRE of agent 2 with a tag, at the front of its buffer. -/
def acquires (s : State) (tag start length mode maxWait : Nat) : State :=
  asking s 2 .acquire tag (acquireBody start length mode maxWait)

theorem test_hyp_AcquireRefused_fields :
    (∀ f ∈ [acquireFrame 32 (acquireBody 1 1 1 0), acquireFrame 31 [], acquireFrame 31 (acquireBody 1 1 0 0),
        acquireFrame 31 (acquireBody 1 1 3 0)],
      let s := asking quiet 2 .acquire f.tag f.body
      AnswerableHead s 2 .acquire f [] ∧ InSession s 2 f.epoch ∧
      (¬TagFree s 2 f.tag ∨ f.body.length ≠ 12 ∨ Mode.ofCode (field f.body 9 1) = none)) ∧
    (∀ q ∈ [(1, 0), (999999, 2)],
      let f := acquireFrame 0 (acquireBody q.1 q.2 1 0)
      let s := asking quiet 2 .acquire 0 f.body
      AnswerableHead s 2 .acquire f [] ∧ InSession s 2 1 ∧ AcquireAsks f ⟨q.1, q.2⟩ .shared 0 ∧ TagFree s 2 0 ∧
      (⟨q.1, q.2⟩ : Extent).valid s.params.volume = false) ∧
    (let f := acquireFrame 0 (acquireBody 6069 1 1 0)
     let s := asking quiet 1 .acquire 0 f.body
     AnswerableHead s 1 .acquire f [] ∧ InSession s 1 1 ∧ AcquireAsks f ⟨6069, 1⟩ .shared 0 ∧ TagFree s 1 0 ∧
     (⟨6069, 1⟩ : Extent).valid s.params.volume = true ∧ ¬NoSelfOverlap s 1 ⟨6069, 1⟩) :=
  ⟨by decide +kernel, by decide +kernel, by decide +kernel⟩

theorem test_hyp_AcquireRefused_tests :
    (∀ q ∈ [(quiet, 0, Obstacle.records), (running 0 (2 ^ 64 - 1) [], 1, .room), (crowded, 1, .records)],
      let s := acquires q.1 0 6040 40 2 q.2.1
      AcquireReady s 2 (acquireFrame 0 (acquireBody 6040 40 2 q.2.1)) [] ⟨6040, 40⟩ .exclusive q.2.1 ∧
      s.obstacle s.waitList (acquiring 2 ⟨6040, 40⟩ .exclusive) = some q.2.2) ∧
    128 ≤ (acquires crowded 0 6040 40 2 1).waitList.length := by decide +kernel

/-- The last block of the volume and the last token. -/
theorem test_hyp_AcquireGranted :
    let s := acquires (running 0 (2 ^ 64 - 2) leases101) 31 999999 1 2 65535
    let f := acquireFrame 31 (acquireBody 999999 1 2 65535)
    AcquireReady s 2 f [] ⟨999999, 1⟩ .exclusive 65535 ∧
    s.obstacle s.waitList (acquiring 2 ⟨999999, 1⟩ .exclusive) = none ∧ LowestFree s 2 := by decide +kernel

theorem test_hyp_RequestsWait_acquire :
    let behind := running 0 202 leases101 [waits 3 0 6079 1 .shared 9 .recalling]
    let barred := { quiet with sweep := some ⟨1, .revoke, ⟨6079, 1⟩, 0x04#8, .draining, .zero⟩ }
    ∀ q ∈ [(quiet, Obstacle.records), (behind, .earlier), (barred, .barrier)],
      let s := acquires q.1 0 6040 40 2 1
      s.waitList.length < 128 ∧
      AcquireReady s 2 (acquireFrame 0 (acquireBody 6040 40 2 1)) [] ⟨6040, 40⟩ .exclusive 1 ∧
      s.obstacle s.waitList (acquiring 2 ⟨6040, 40⟩ .exclusive) = some q.2 := by decide +kernel

theorem test_hyp_RequestsWait_convert :
    let body := convertBody 202 2 1
    let r := lease 1 202 1 6050 20 .shared
    let behind := running 0 202 leases101 [waits 3 0 6069 1 .shared 9 .recalling]
    let barred := { quiet with sweep := some ⟨1, .demote, ⟨6069, 1⟩, 0x02#8, .draining, .zero⟩ }
    ∀ q ∈ [(quiet, Obstacle.records), (behind, .earlier), (barred, .barrier)],
      let s := asking q.1 1 .convert 0 body
      IndexLaw s ∧ ConvertReady s 1 ⟨.convert, 0, 1, body⟩ [] r .exclusive 1 ∧ r.recallRecord = none ∧
      s.obstacle s.waitList (upgrading 1 r) = some q.2 := by unfold IndexLaw; decide +kernel

/-- A CONVERT of agent 1 with a tag and a body. -/
def converts (s : State) (tag : Nat) (body : List Byte) : State := asking s 1 .convert tag body

theorem test_hyp_ConvertRefused_fields :
    (∀ f ∈ [(⟨.convert, 32, 1, convertBody 202 2 0⟩ : Frame AnswerableKind), ⟨.convert, 31, 1, []⟩,
        ⟨.convert, 31, 1, convertBody 202 3 0⟩],
      let s := converts quiet f.tag f.body
      IndexLaw s ∧ AnswerableHead s 1 .convert f [] ∧ InSession s 1 f.epoch ∧
      (¬TagFree s 1 f.tag ∨ f.body.length ≠ 11 ∨ Mode.ofCode (field f.body 8 1) = none)) ∧
    (let f : Frame AnswerableKind := ⟨.convert, 0, 1, convertBody 203 2 0⟩
     let s := converts quiet 0 f.body
     ConvertAsks f 203 .exclusive 0 ∧ TagFree s 1 0 ∧ ∀ r ∈ s.grantTable.records, r.token ≠ 203) ∧
    (let r := lease 1 202 1 6050 20 .shared
     let f : Frame AnswerableKind := ⟨.convert, 0, 1, convertBody 202 2 0⟩
     let s := converts (running 0 202 leases101 [waits 1 5 6050 20 .exclusive 9 .recalling (.convert 1)]) 0 f.body
     IndexLaw s ∧ AnswerableHead s 1 .convert f [] ∧ InSession s 1 1 ∧ ConvertAsks f 202 .exclusive 0 ∧
       TagFree s 1 0 ∧
     Cites s 1 202 r ∧ ∃ e ∈ s.waitList, e.agent = 1 ∧ e.kind = .convert r.slot) := by
  unfold IndexLaw; exact ⟨by decide +kernel, by decide +kernel, by decide +kernel⟩

theorem test_hyp_ConvertRefused_unknown : ∀ r, ¬Cites (converts quiet 0 (convertBody 203 2 0)) 1 203 r :=
  not_cited (by decide +kernel)

theorem test_hyp_ConvertRefused_tests :
    (let r := lease 1 202 1 6050 20 .shared recall101
     let f : Frame AnswerableKind := ⟨.convert, 0, 1, convertBody 202 2 0⟩
     ConvertReady (converts (running 0 202 [r]) 0 f.body) 1 f [] r .exclusive 0 ∧ r.recallRecord.isSome = true) ∧
    (∀ q ∈ [(quiet, 0, Obstacle.records), (running 0 (2 ^ 64 - 1) [lease 1 202 1 6050 20 .shared], 1, .room),
        (crowded, 1, .records)],
      let r := lease 1 202 1 6050 20 .shared
      let f : Frame AnswerableKind := ⟨.convert, 0, 1, convertBody 202 2 q.2.1⟩
      let s := converts q.1 0 f.body
      IndexLaw s ∧ ConvertReady s 1 f [] r .exclusive q.2.1 ∧ s.obstacle s.waitList (upgrading 1 r) = some q.2.2) ∧
    128 ≤ (converts crowded 0 []).waitList.length := by
  unfold IndexLaw; exact ⟨by decide +kernel, by decide +kernel, by decide +kernel⟩

theorem test_hyp_ConvertUpgrades :
    let r := lease 1 202 1 6050 20 .shared
    let s := converts (running 0 (2 ^ 64 - 2) [r]) 31 (convertBody 202 2 0)
    IndexLaw s ∧ ConvertReady s 1 ⟨.convert, 31, 1, convertBody 202 2 0⟩ [] r .exclusive 0 ∧
    s.obstacle s.waitList (upgrading 1 r) = none := by unfold IndexLaw; decide +kernel

/-- HELD, and RECALLING with either want. -/
theorem test_hyp_ConvertDowngrades :
    ∀ rc ∈ [none, some (⟨.downgrade, .conflict, 1, 9⟩ : RecallRecord), some ⟨.release, .conflict, 1, 9⟩],
      let r := lease 1 202 1 6050 20 .exclusive rc
      let s := converts (running 0 202 [r]) 31 (convertBody 202 1 0)
      IndexLaw s ∧ ConvertReady s 1 ⟨.convert, 31, 1, convertBody 202 1 0⟩ [] r .shared 0 := by
  unfold IndexLaw; decide +kernel

/-- A good QUERY of the last block, an invalid extent, tag 32 and no body. -/
theorem test_hyp_QueryAnswered :
    let body (length : Nat) : List Byte := beBytes 6 999999 ++ beBytes 3 length ++ beBytes 6 0
    (∀ f ∈ [(⟨.query, 31, 1, body 1⟩ : Frame AnswerableKind), ⟨.query, 31, 1, body 2⟩, ⟨.query, 32, 1, body 1⟩,
        ⟨.query, 0, 1, []⟩],
      let s := asking quiet 3 .query f.tag f.body
      AnswerableHead s 3 .query f [] ∧ InSession s 3 f.epoch ∧ (TagFree s 3 f.tag ↔ f.tag ≠ 32)) ∧
    (body 1).length = 15 ∧ (⟨999999, 1⟩ : Extent).valid quiet.params.volume = true ∧
    (⟨999999, 2⟩ : Extent).valid quiet.params.volume = false := by decide +kernel

/-- 14 records in groups of 7 at one start: the walk returns the first group only. -/
theorem test_hyp_RangeWalkReturnsWholeGroups :
    let records := (List.range 14).map fun n => lease n (n + 1) (Fin.ofNat 8 n) (100 + n / 7) 5 .shared
    records.Pairwise (fun r r' => r.before r' = true) ∧ (walkRecords records ⟨100, 5⟩ 0).length = 7 ∧
    walkMore records ⟨100, 5⟩ 0 = true := by decide +kernel

/-- The examples of R4, extents of one block that share it or not, and the ends of the range of R3. -/
theorem test_hyp_GrantableOrFirstObstacle :
    (⟨100, 10⟩ : Extent).overlaps ⟨110, 5⟩ = false ∧ (⟨100, 50⟩ : Extent).overlaps ⟨120, 1⟩ = true ∧
    (⟨7, 1⟩ : Extent).overlaps ⟨7, 1⟩ = true ∧ (⟨7, 1⟩ : Extent).overlaps ⟨8, 1⟩ = false ∧
    (⟨999999, 1⟩ : Extent).valid 1000000 = true ∧ (⟨500, 0⟩ : Extent).valid 1000000 = false ∧
    (⟨0, 16777215⟩ : Extent).valid 1000000 = false := by decide +kernel

/-! ### Closing frames, waiting and recalls -/

theorem test_hyp_ClosingFramesChecked :
    (∀ s₀ ∈ [unconfigured, sessionIn quiet 0 .fenced],
      let s := closing s₀ 0 .release 0 []
      UnconfiguredLaw s ∧ ClosingHead s 0 .release ⟨.release, 0, 1, []⟩ [] ∧
      (s.management.state = .unconfigured ∨ isActive (s.session 0).state = false)) ∧
    (∀ f ∈ [(⟨.cancel, 0, 2, []⟩ : Frame ClosingKind), ⟨.release, 0, 1, beBytes 7 0⟩, ⟨.downgrade, 0, 1, beBytes 9 0⟩,
        ⟨.cancel, 0, 1, [0]⟩, ⟨.keepalive, 0, 1, [0]⟩, ⟨.keepalive, 0, 1, []⟩],
      let s := closing quiet 0 f.kind f.tag f.body f.epoch
      UnconfiguredLaw s ∧ ClosingHead s 0 f.kind f [] ∧ s.management.state ≠ .unconfigured ∧
      isActive (s.session 0).state = true ∧ (s.session 0).epoch = 1) := by unfold UnconfiguredLaw; decide +kernel

/-- A token not found; a record whose CONVERT waits; and one with no CONVERT. -/
theorem test_hyp_ReleaseRemovesRecord :
    (∀ q ∈ [((2 : AgentId), 0), (2, 6), (1, 7)],
      let f : Frame ClosingKind := ⟨.release, 0, 1, beBytes 8 q.2⟩
      let s := closing busy q.1 .release 0 f.body
      IndexLaw s ∧ ClosingHead s q.1 .release f [] ∧ InSession s q.1 1 ∧ f.body.length = 8 ∧ field f.body 0 8 = q.2) ∧
    (let s := closing busy 2 .release 0 (beBytes 8 6)
     Cites s 2 6 (lease 1 6 2 310 20 .shared) ∧
     s.waitList = s.waitList.take 2 ++ waits 2 0 310 20 .exclusive 1700 .recalling (.convert 1) :: [] ∧
     ∀ e ∈ s.waitList.take 2, e.agent = 2 → e.kind ≠ .convert 1) ∧
    (let s := closing busy 1 .release 0 (beBytes 8 7)
     Cites s 1 7 (lease 2 7 1 300 20 .shared (some ⟨.release, .sweep, 1, 1050⟩) true) ∧
     ∀ e ∈ s.waitList, e.agent = 1 → e.kind ≠ .convert 2) := by unfold IndexLaw; decide +kernel

theorem test_hyp_ReleaseRemovesRecord_unknown : ∀ r, ¬Cites (closing busy 2 .release 0 (beBytes 8 0)) 2 0 r :=
  not_cited (by decide +kernel)

theorem test_hyp_DowngradeSharesRecord :
    (∀ q ∈ [((0 : AgentId), 5), (2, 6), (0, 0)],
      let f : Frame ClosingKind := ⟨.downgrade, 0, 1, beBytes 8 q.2⟩
      let s := closing busy q.1 .downgrade 0 f.body
      IndexLaw s ∧ ClosingHead s q.1 .downgrade f [] ∧ InSession s q.1 1 ∧ f.body.length = 8 ∧
        field f.body 0 8 = q.2) ∧
    Cites (closing busy 0 .downgrade 0 (beBytes 8 5)) 0 5
      (lease 0 5 0 100 50 .exclusive (some ⟨.release, .conflict, 2, 1200⟩)) ∧
    Cites (closing busy 2 .downgrade 0 (beBytes 8 6)) 2 6 (lease 1 6 2 310 20 .shared) := by
  unfold IndexLaw; decide +kernel

theorem test_hyp_DowngradeSharesRecord_unknown : ∀ r, ¬Cites (closing busy 0 .downgrade 0 (beBytes 8 0)) 0 0 r :=
  not_cited (by decide +kernel)

/-- The entry of tag 31 at its deadline and under CANCEL; and a CANCEL of tag 255. -/
theorem test_hyp_EntriesTimedOutOrCancelled :
    let e := waits 3 31 125 10 .exclusive 1600 (.queued .earlier)
    (∀ s ∈ [{ busy with timeBase := 1600 }, closing busy 3 .cancel 31 []],
      s.waitList = s.waitList.take 1 ++ e :: s.waitList.drop 2 ∧ e.agent = 3 ∧ e.tag = 31 ∧ e.epoch = 1 ∧
      ∀ e' ∈ s.waitList.take 1, e'.agent = 3 → e'.tag ≠ 31) ∧
    e.deadline = ({ busy with timeBase := 1600 } : State).timeBase ∧
    (∀ tag ∈ [31, 255], let s := closing busy 3 .cancel tag []
      ClosingHead s 3 .cancel ⟨.cancel, tag, 1, []⟩ [] ∧ InSession s 3 1) ∧
    ∀ e' ∈ (closing busy 3 .cancel 255 []).waitList, ¬(e'.agent = 3 ∧ e'.tag = 255 ∧ e'.epoch = 1) :=
      by decide +kernel

/-- A HELD record with and without a waiting CONVERT; a recall to escalate; and recalls that stand. -/
theorem test_hyp_RecallRequestsHandled :
    IndexLaw busy ∧ IndexLaw quiet ∧ lease 1 6 2 310 20 .shared ∈ busy.grantTable.records ∧
    busy.waitList = busy.waitList.take 2 ++ waits 2 0 310 20 .exclusive 1700 .recalling (.convert 1) :: [] ∧
    lease 0 201 0 6000 100 .shared ∈ quiet.grantTable.records ∧ quiet.waitList = [] ∧
    lease 0 5 0 100 50 .exclusive (some ⟨.release, .conflict, 2, 1200⟩) ∈ busy.grantTable.records ∧
    (let r := lease 0 5 0 100 50 .exclusive (some ⟨.downgrade, .conflict, 2, 1200⟩)
     IndexLaw (running 0 9 [r]) ∧ r ∈ (running 0 9 [r]).grantTable.records) := by
  refine ⟨test_busy_index, index_quiet, ?_⟩; unfold IndexLaw; decide +kernel

/-- At the deadline's own count, one attempt below N_r and at N_r. -/
theorem test_hyp_RecallDeadlineResendsOrFences :
    ∀ attempts ∈ [3, 4],
      let rc : RecallRecord := ⟨.release, .conflict, attempts, 130⟩
      let r := lease 0 201 0 6000 100 .shared rc
      let s := running 130 202 [r]
      IndexLaw s ∧ r ∈ s.grantTable.records ∧ r.recallRecord = some rc ∧ rc.deadline = s.timeBase ∧
        s.params.attemptLimit = 4 := by
  unfold IndexLaw; decide +kernel

/-! ### Sweeps and management -/

/-- Every clause of the step: a record passed because its last block is S - 1,
  one because its holder is not in the mask; a
SHARED and an EXCLUSIVE record examined under each kind; a first record ahead that starts at E,
  with and without a pending
record behind. -/
theorem test_hyp_SweepStepWalksIndex :
    let w (k : SweepKind) (c : Cursor) : Sweep := ⟨7, k, ⟨10000, 1000⟩, 0x06#8, .scanning c, .zero⟩
    (∀ k ∈ [SweepKind.revoke, .demote, .census],
      ∀ q ∈ [(lease 0 1 1 9990 10 .exclusive, false), (lease 0 1 3 10000 1 .exclusive, false),
        (lease 0 1 1 9990 11 .shared, true), (lease 0 1 2 10999 1 .exclusive, true)],
      let c : Cursor := .before 0 0
      let s := { running 2 33 [q.1] with sweep := some (w k c) }
      s.sweep = some (w k c) ∧ (w k c).phase = .scanning c ∧ s.grantTable.records = [] ++ q.1 :: [] ∧
      c.isAhead q.1 = true ∧ q.1.extent.start < (w k c).range.start + (w k c).range.length ∧
      (q.1.extent.overlaps (w k c).range && (w k c).mask.getLsbD q.1.holder.val) = q.2) ∧
    (∀ pending, let c : Cursor := .after 10000 0
      let s := { running 2 33 [lease 0 1 1 10000 1 .exclusive (some ⟨.downgrade, .sweep, 1, 102⟩) pending,
        lease 1 2 1 11000 1 .shared] with sweep := some (w .demote c) }
      (∀ r ∈ s.grantTable.records, c.isAhead r = true → 10000 + 1000 ≤ r.extent.start) ∧
      (pending = true ↔ ∃ r ∈ s.grantTable.records, r.sweepPending = true)) := by decide +kernel

/-- Each test of SWEEP_START at its edge, and SWEEP_ABORT with and without a sweep. -/
theorem test_hyp_SweepStartsAndAborts :
    let body (kind start length mask : Nat) : List Byte :=
      beBytes 2 7 ++ beBytes 1 kind ++ beBytes 6 start ++ beBytes 3 length ++ beBytes 1 mask
    (∀ s₀ ∈ [quiet, busy, unconfigured], ∀ b ∈ [body 1 0 1 1, body 3 999999 1 128, body 0 0 1 1, body 4 0 1 1,
      body 1 0 1 0,
        body 1 999999 2 1, []],
      let s := commanding s₀ .sweepStart 1 b
      CommandHead s .sweepStart ⟨.sweepStart, 1, 0, b⟩ [] ∧ s.sweep = s₀.sweep ∧ s.management = s₀.management) ∧
    quiet.sweep = none ∧ busy.sweep ≠ none ∧ quiet.management.state ≠ .unconfigured ∧ (body 1 0 1 1).length = 13 ∧
    SweepKind.ofCode (field (body 3 999999 1 128) 2 1) = some .census ∧
      SweepKind.ofCode (field (body 4 0 1 1) 2 1) = none ∧
    BitVec.ofNat 8 (field (body 1 0 1 0) 12 1) = 0 ∧ (⟨999999, 1⟩ : Extent).valid quiet.params.volume = true ∧
    (⟨999999, 2⟩ : Extent).valid quiet.params.volume = false ∧
    (∀ s ∈ [busy, quiet], ∀ b ∈ [[], [0]], CommandHead (commanding s .sweepAbort 1 b) .sweepAbort ⟨.sweepAbort, 1,
      0, b⟩ []) := by
  decide +kernel

/-- A good body, with L at its least, and one with C above W; and a directory that is RUNNING. -/
theorem test_hyp_ConfigureStartsDirectory :
    let n (offset size : Nat) : Nat := field (configureBody 50 3) offset size
    CommandHead (commanding unconfigured .configure 1 (configureBody 50 3)) .configure ⟨.configure, 1, 0,
      configureBody 50 3⟩ [] ∧
    (configureBody 50 3).length = 39 ∧ (1 ≤ n 0 8 ∧ n 0 8 ≤ 2 ^ 48) ∧ (50 ≤ n 8 2 ∧ n 8 2 ≤ 60000) ∧
    (5 ≤ n 10 2 ∧ n 10 2 ≤ 10000) ∧ (1 ≤ n 12 1 ∧ n 12 1 ≤ 8) ∧ (1 ≤ n 13 1 ∧ n 13 1 ≤ 16) ∧
    (∀ a : AgentId, n (15 + a.val) 1 ≤ 1) ∧
    (∀ o ∈ [23, 27], n o 1 ≤ 1 ∧ 1 ≤ n (o + 1) 1 ∧ n (o + 1) 1 ≤ 64 ∧ 1 ≤ n (o + 2) 1 ∧ n (o + 2) 1 ≤ n (o + 1) 1 ∧
      n (o + 3) 1 ≤ 1) ∧
    ¬field (configureBody 49 3) 8 2 ≥ 50 ∧ field (configureBody 50 5) 24 1 < field (configureBody 50 5) 25 1 ∧
    CommandHead (commanding quiet .configure 1 []) .configure ⟨.configure, 1, 0, []⟩ [] ∧
      quiet.management.state ≠ .unconfigured := by
  decide +kernel

/-- The edges of each range,
  of the identifiers and of the selectors; V at the end of the last lease and one below it. -/
theorem test_hyp_SetParamSetsOne :
    (∀ p ∈ [(0, 0, 0), (10, 0, 0), (1, 0, 6100), (1, 0, 6099), (1, 0, 2 ^ 48), (1, 0, 2 ^ 48 + 1), (2, 0, 50), (2,
      0, 49), (3, 0, 10000),
        (3, 0, 10001), (4, 0, 8), (4, 0, 9), (5, 1, 1), (5, 2, 1), (6, 0, 8), (6, 0, 7), (6, 1, 65), (7, 0, 16),
          (7, 0, 17), (7, 1, 0),
        (8, 0, 1), (8, 0, 2), (9, 7, 1), (9, 7, 2), (9, 8, 0)],
      let body := beBytes 1 p.1 ++ beBytes 1 p.2.1 ++ beBytes 8 p.2.2
      CommandHead (commanding quiet .setParam 1 body) .setParam ⟨.setParam, 1, 0, body⟩ [] ∧ body.length = 10 ∧
      (field body 0 1, field body 1 1, field body 2 8) = p) ∧
    CommandHead (commanding unconfigured .setParam 1 []) .setParam ⟨.setParam, 1, 0, []⟩ [] ∧
    quiet.management.state ≠ .unconfigured ∧
      (∃ r ∈ quiet.grantTable.records, 6099 < r.extent.start + r.extent.length) ∧
    (∀ r ∈ quiet.grantTable.records, ¬6100 < r.extent.start + r.extent.length) ∧
    (quiet.churn.groups.get 0).threshold ≤ 8 ∧ 16 ≤ (quiet.churn.groups.get 0).window := by decide +kernel

theorem test_hyp_AgentCommandsActOnOne :
    (∀ k ∈ [CommandKind.admitAgent, .evict, .ackChurn], ∀ b ∈ [[7], [8], []],
      CommandHead (commanding busy k 1 b) k ⟨k, 1, 0, b⟩ [] ∧ (k = .admitAgent ∨ k = .evict ∨ k = .ackChurn)) ∧
    field [7] 0 1 = (7 : AgentId).val ∧ 7 < field [8] 0 1 ∧ isActive (busy.session 7).state = true ∧
    isActive ((sessionIn busy 7 .fenced).session 7).state = false := by decide +kernel

theorem test_hyp_AgentCommandsActOnOne_index : IndexLaw (commanding busy .evict 1 [7]) :=
  index_same test_busy_index rfl

theorem test_hyp_PauseAndResume :
    let paused := { quiet with management := { quiet.management with state := .paused } }
    (∀ s ∈ [quiet, paused, unconfigured], ∀ k ∈ [CommandKind.pause, .resume], ∀ b ∈ [[], [0]],
      CommandHead (commanding s k 1 b) k ⟨k, 1, 0, b⟩ []) ∧ quiet.management.state = .running := by decide +kernel

theorem test_hyp_ManagementQueriesAnswered :
    let body (length : Nat) : List Byte := beBytes 6 999999 ++ beBytes 3 length ++ beBytes 6 0
    (∀ s ∈ [quiet, unconfigured], ∀ b ∈ [body 1, body 2, []],
      CommandHead (commanding s .queryExtent 1 b) .queryExtent ⟨.queryExtent, 1, 0, b⟩ []) ∧ (body 1).length = 15 ∧
    (⟨999999, 1⟩ : Extent).valid quiet.params.volume = true ∧
      (⟨999999, 2⟩ : Extent).valid quiet.params.volume = false ∧
    (∀ b ∈ [[7], [8], []], CommandHead (commanding busy .queryAgent 1 b) .queryAgent ⟨.queryAgent, 1, 0, b⟩ []) ∧
    field [7] 0 1 = (7 : AgentId).val ∧ 7 < field [8] 0 1 := by decide +kernel

theorem test_hyp_CountersReadAndCleared :
    (∀ b ∈ [[], [9, 0], [8, 2], [7, 1], [8, 0]],
      CommandHead (commanding busy .readCounters 1 b) .readCounters ⟨.readCounters, 1, 0, b⟩ []) ∧
    8 < field [9, 0] 0 1 ∧ field [8, 2] 0 1 ≤ 8 ∧ 1 < field [8, 2] 1 1 ∧ field [7, 1] 0 1 = (7 : AgentId).val ∧
    field [7, 1] 1 1 ≤ 1 ∧ field [8, 0] 0 1 = 8 := by decide +kernel

theorem test_hyp_ReportsResumedAndAcknowledged :
    (∀ s ∈ [busy, quiet], ∀ b ∈ [[], [0]],
      CommandHead (commanding s .reportResume 1 b) .reportResume ⟨.reportResume, 1, 0, b⟩ []) ∧
    busy.reportQueue.suspended = true ∧ quiet.reportQueue.suspended = false ∧
    (∀ b ∈ [[], [0]], (commanding quiet .reportAck 0 b).mgmtLink.command.frames = ⟨.reportAck, 0, 0, b⟩ :: []) ∧
    quiet.mgmtLink.linkState = .run := by decide +kernel

theorem test_hyp_ResetEmptiesTables :
    (∀ s ∈ [busy, quiet, unconfigured], ∀ b ∈ [[], [0]],
      CommandHead (commanding s .resetDirectory 1 b) .resetDirectory ⟨.resetDirectory, 1, 0, b⟩ []) ∧
    busy.management.state ≠ .unconfigured ∧ unconfigured.management.state = .unconfigured := by decide +kernel

/-- 13 and 271 bytes; a bad check value at 14; a length field that disagrees, and one of 257; a frame of 14 bytes. -/
theorem test_hyp_FramesCheckedAndReadBack_checks :
    let agrees (bytes : List Byte) : Bool :=
      (crc32 (bytes.take (bytes.length - 4))).toNat == field bytes (bytes.length - 4) 4
    (beBytes 13 0).length < 14 ∧ 270 < (beBytes 271 0).length ∧ agrees (beBytes 14 0) = false ∧
    (let bytes := closeFrame (headerOf 0x24 0 1 1 0 0)
     bytes.length = 14 ∧ agrees bytes = true ∧ field bytes 2 2 ≠ bytes.length - 14) ∧
    (let bytes := closeFrame (headerOf 0x24 0 257 1 0 0)
     agrees bytes = true ∧ 256 < field bytes 2 2) ∧
    (let bytes := closeFrame (headerOf 0x24 0 0 1 0 0)
     bytes.length = 14 ∧ agrees bytes = true ∧ field bytes 2 2 = bytes.length - 14) := by decide +kernel

/-- The largest value of every field and the longest body. -/
theorem test_hyp_FramesCheckedAndReadBack :
    let body : List Byte := List.replicate 256 0xFF
    (255 : Nat) < 2 ^ 8 ∧ 2 ^ 32 - 1 < 2 ^ 32 ∧ body.length ≤ 256 ∧
    checkFrame (frameBytes 255 255 (2 ^ 32 - 1) 255 255 [0xFF]) = .wellFormed ⟨255, 255, 2 ^ 32 - 1, 255,
      [0xFF]⟩ := by
  decide +kernel

end Sys2Proof.Tests
end

section
/-!
SUPPORT. What any command can do to the state, as a run of small changes. Each change states what the counts, the
deadlines, the Report Queue, the control lanes and the Wait List may become; the fields that no law of
`CountsStayBounded` reads may change at will.
-/

namespace Sys2Proof.Laws

-- One lemma at a time: checked at once, so many would start more threads than the memory limit of check.sh allows.
set_option Elab.async false

open Sys2Proof.Machine Sys2Proof.Safety

/-! ## Deadlines that stand (R2) -/

/-- A deadline of a wait entry, of a recall or of an ACTIVE session. -/
def Stands (s : State) (d : Nat) : Prop :=
  (∃ e ∈ s.waitList, e.deadline = d) ∨
  (∃ r ∈ s.grantTable.records, ∃ rc, r.recallRecord = some rc ∧ rc.deadline = d) ∨
  ∃ a : AgentId, (s.session a).state = .active d

/-- A deadline that stands already or is not behind the count. -/
def MayStand (s : State) (d : Nat) : Prop := Stands s d ∨ s.timeBase ≤ d

theorem deadlineDue_iff_stands (s : State) : s.deadlineDue = true ↔ Stands s s.timeBase := deadlineDue_iff s

theorem deadlineLaw_iff (s : State) : DeadlineLaw s ↔ ∀ d, Stands s d → s.timeBase ≤ d := by
  constructor
  · rintro ⟨hentries, hrecalls, hleases⟩ d (⟨e, he, rfl⟩ | ⟨r, hr, rc, hrc, rfl⟩ | ⟨a, ha⟩)
    · exact hentries e he
    · exact hrecalls r hr rc hrc
    · exact hleases a d ha
  · intro h
    exact ⟨fun e he => h _ (.inl ⟨e, he, rfl⟩), fun r hr rc hrc => h _ (.inr (.inl ⟨r, hr, rc, hrc, rfl⟩)),
      fun a d ha => h d (.inr (.inr ⟨a, ha⟩))⟩

theorem mayStand_recall {s : State} {r : GrantRecord} {rc : RecallRecord} (hr : r ∈ s.grantTable.records)
    (hrc : r.recallRecord = some rc) : MayStand s rc.deadline := .inl (.inr (.inl ⟨r, hr, rc, hrc, rfl⟩))

theorem mayStand_lease {s : State} {a : AgentId} {d : Nat} (h : (s.session a).state = .active d) : MayStand s d :=
  .inl (.inr (.inr ⟨a, h⟩))

/-! ## The small changes -/

/-- What identifies a wait entry and lets it pass; only its state changes while it waits (R33). -/
def entryKey (e : WaitEntry) : AgentId × Nat × Nat := (e.agent, e.tag, e.deadline)

/-- What can happen to the Report Queue (R173 to R176). -/
inductive QueueChange (q : ReportQueue) : ReportQueue → Prop
  | append (r : Report) : QueueChange q (q.append r)
  | dropHead : QueueChange q q.dropHead
  | resume : QueueChange q { q with marker := false, suspended := false, lost := 0 }

/-- What can happen to a control lane (R143, R144). -/
inductive LaneChange (lane : List ControlFrame) : List ControlFrame → Prop
  | same : LaneChange lane lane
  | sent : LaneChange lane lane.tail
  | notice (kind : NoticeKind) (epoch : Nat) : LaneChange lane (addNotice lane kind epoch)
  | syncAck (answerable closing : Nat) : LaneChange lane (addSyncAck lane answerable closing)

/-- The two states agree in the queue of commands and in every field that `TimeLaw`, `DeadlineLaw`, `ReportQueueLaw`,
`ControlLaneLaw` or `WaitListLaw` reads. -/
structure SameWatched (s t : State) : Prop where
  timeBase : t.timeBase = s.timeBase := by rfl
  records : t.grantTable.records = s.grantTable.records := by rfl
  waitList : t.waitList = s.waitList := by rfl
  sessions : t.sessions = s.sessions := by rfl
  reportQueue : t.reportQueue = s.reportQueue := by rfl
  agentLinks : t.agentLinks = s.agentLinks := by rfl
  pending : t.pending = s.pending := by rfl

/-- One small change. -/
inductive Change (s : State) : State → Prop
  | powerOn : Change s { State.reset with pending := s.pending }
  | tick (h : ¬Stands s s.timeBase) : Change s s.timeAdvances
  | unwatched {t : State} (h : SameWatched s t) : Change s t
  | queue {q : ReportQueue} (h : QueueChange s.reportQueue q) : Change s { s with reportQueue := q }
  | link {a : AgentId} {f : AgentLink → AgentLink} (h : LaneChange (s.link a).control (f (s.link a)).control) :
      Change s (s.modLink a f)
  | sessions {p : PerAgent Session} (h : ∀ a d, (p.get a).state = .active d → MayStand s d) :
      Change s { s with sessions := p }
  | records {g : GrantTable} (h : ∀ r ∈ g.records, ∀ rc, r.recallRecord = some rc → MayStand s rc.deadline) :
      Change s { s with grantTable := g }
  | entries {l : List WaitEntry} (h : (l.map entryKey).Sublist (s.waitList.map entryKey)) : Change s (s.setWaitList l)
  | entryJoins {e : WaitEntry} (hroom : s.waitList.length < Config.waitCapacity) (htag : TagFree s e.agent e.tag)
      (hdeadline : s.timeBase ≤ e.deadline) : Change s (s.setWaitList (s.waitList ++ [e]))

/-- A run of small changes. -/
abbrev Changes : State → State → Prop := Relation.ReflTransGen Change

/-- What every small change keeps, a run of them keeps. -/
theorem Changes.keeps {P : State → Prop} (hP : ∀ s t, Change s t → P s → P t) {s t : State} (h : Changes s t)
    (hs : P s) : P t := by
  induction h with
  | refl => exact hs
  | tail _ hlast ih => exact hP _ _ hlast ih

/-! ## What a small change keeps -/

theorem Change.pending {s t : State} (h : Change s t) : t.pending = s.pending := by
  cases h with
  | unwatched h => exact h.pending
  | _ => rfl

theorem Changes.pending {s t : State} (h : Changes s t) : t.pending = s.pending :=
  h.keeps (P := fun u => u.pending = s.pending) (fun _ _ hc hu => hc.pending.trans hu) rfl

theorem Change.timeLaw {s t : State} (h : Change s t) (hs : TimeLaw s) : TimeLaw t := by
  cases h with
  | powerOn => exact Nat.zero_le _
  | tick =>
    unfold TimeLaw at hs ⊢
    rw [timeAdvances_timeBase]
    split
    · omega
    · exact hs
  | unwatched h => exact h.timeBase.trans_le hs
  | _ => exact hs

theorem Change.deadlineLaw {s t : State} (h : Change s t) (hs : DeadlineLaw s) : DeadlineLaw t := by
  have hstand := (deadlineLaw_iff s).mp hs
  have hmay : ∀ d, MayStand s d → s.timeBase ≤ d := fun d h => h.elim (hstand d) id
  obtain ⟨hentries, hrecalls, hleases⟩ := hs
  cases h with
  | powerOn => exact (deadlineLaw_iff _).mpr fun _ _ => Nat.zero_le _
  | tick hdue =>
    refine (deadlineLaw_iff _).mpr fun d hd => ?_
    have hle : s.timeBase ≤ d := hstand d hd
    have hne : s.timeBase ≠ d := fun he => hdue (he ▸ hd)
    rw [timeAdvances_timeBase]
    split <;> omega
  | unwatched h =>
    unfold DeadlineLaw State.session
    rw [h.timeBase, h.records, h.waitList, h.sessions]
    exact ⟨hentries, hrecalls, hleases⟩
  | queue => exact ⟨hentries, hrecalls, hleases⟩
  | link => exact ⟨hentries, hrecalls, hleases⟩
  | sessions h => exact ⟨hentries, hrecalls, fun a d ha => hmay d (h a d ha)⟩
  | records h => exact ⟨hentries, fun r hr rc hrc => hmay _ (h r hr rc hrc), hleases⟩
  | entries h =>
    refine ⟨fun e he => ?_, hrecalls, hleases⟩
    obtain ⟨f, hf, hkey⟩ := List.mem_map.mp (h.subset (List.mem_map_of_mem he))
    have hd : f.deadline = e.deadline := congrArg (fun k => k.2.2) hkey
    exact hd ▸ hentries f hf
  | entryJoins _ _ hdeadline =>
    refine ⟨fun e he => ?_, hrecalls, hleases⟩
    rcases List.mem_append.mp he with hold | hnew
    · exact hentries e hold
    · exact List.mem_singleton.mp hnew ▸ hdeadline

theorem countUp_le {n : Nat} (h : n ≤ Config.counterMax) : countUp n ≤ Config.counterMax := by
  unfold countUp
  split <;> omega

theorem QueueChange.reportQueueLaw {s t : State} (h : QueueChange s.reportQueue t.reportQueue)
    (hs : ReportQueueLaw s) : ReportQueueLaw t := by
  obtain ⟨hlen, hmarker, hlost, hmax⟩ := hs
  unfold ReportQueueLaw
  generalize t.reportQueue = q at h
  cases h with
  | append r =>
    unfold ReportQueue.append
    split
    · rename_i hsus
      exact ⟨hlen, hmarker, by simp [hsus], countUp_le hmax⟩
    · split
      · rename_i hroom
        exact ⟨by simpa using hroom, hmarker, hlost, hmax⟩
      · exact ⟨hlen, by simp, by simp, Nat.one_le_of_lt (by decide : 1 < Config.counterMax)⟩
  | dropHead =>
    unfold ReportQueue.dropHead
    split
    · rename_i first rest hrest
      rw [hrest] at hlen
      exact ⟨Nat.le_of_succ_le hlen, hmarker, hlost, hmax⟩
    · exact ⟨hlen, by simp, hlost, hmax⟩
  | resume => exact ⟨hlen, by simp, by simp, Nat.zero_le _⟩

theorem Change.reportQueueLaw {s t : State} (h : Change s t) (hs : ReportQueueLaw s) : ReportQueueLaw t := by
  cases h with
  | powerOn => simp [ReportQueueLaw, State.reset]
  | unwatched h => unfold ReportQueueLaw; rw [h.reportQueue]; exact hs
  | queue h => exact QueueChange.reportQueueLaw h hs
  | _ => exact hs

/-- What `ControlLaneLaw` asks of one control lane (R143, R144). -/
def LaneBounded (lane : List ControlFrame) : Prop :=
  lane.countP ControlFrame.isNotice ≤ Config.noticeCapacity ∧ lane.countP (fun c => !c.isNotice) ≤ 1

theorem addNotice_bounded {lane : List ControlFrame} (kind : NoticeKind) (epoch : Nat) (h : LaneBounded lane) :
    LaneBounded (addNotice lane kind epoch) := by
  obtain ⟨hnotices, hacks⟩ := h
  have hnotice : ControlFrame.isNotice (.notice kind epoch) = true := rfl
  have hcount : ∀ l : List ControlFrame, (l ++ [ControlFrame.notice kind epoch]).countP ControlFrame.isNotice =
      l.countP ControlFrame.isNotice + 1 := fun l => by simp [hnotice]
  have hother : ∀ l : List ControlFrame, (l ++ [ControlFrame.notice kind epoch]).countP (fun c => !c.isNotice) =
      l.countP fun c => !c.isNotice := fun l => by simp [hnotice]
  unfold addNotice LaneBounded
  rw [hcount, hother]
  split
  · rename_i hfull
    obtain ⟨c, hmem, hc⟩ := List.countP_pos_iff.mp (lt_of_lt_of_le (by decide) hfull)
    obtain ⟨oldest, before, after, -, holdest, rfl, herased⟩ := List.exists_of_eraseP hmem hc
    rw [herased]
    simp only [List.countP_append, List.countP_cons, holdest, if_true, Bool.not_true, Bool.false_eq_true, if_false]
      at hnotices hacks ⊢
    omega
  · rename_i hroom
    exact ⟨Nat.lt_of_not_le hroom, hacks⟩

theorem addSyncAck_bounded {lane : List ControlFrame} (answerable closing : Nat) (h : LaneBounded lane) :
    LaneBounded (addSyncAck lane answerable closing) := by
  obtain ⟨hnotices, hacks⟩ := h
  unfold addSyncAck LaneBounded
  split
  · rename_i hall
    have hnone : lane.countP (fun c => !c.isNotice) = 0 := by
      rw [List.countP_eq_zero]
      simpa using hall
    have hack : ControlFrame.isNotice (.syncAck answerable closing) = false := rfl
    simpa [hnone, hack] using hnotices
  · have hkind : ∀ c : ControlFrame,
        (if c.isNotice then c else .syncAck answerable closing).isNotice = c.isNotice := by
      intro c
      cases c <;> rfl
    simp only [List.countP_map, Function.comp_def, hkind]
    exact ⟨hnotices, hacks⟩

theorem LaneChange.bounded {lane lane' : List ControlFrame} (h : LaneChange lane lane') (hl : LaneBounded lane) :
    LaneBounded lane' := by
  cases h with
  | same => exact hl
  | sent =>
    have hsub := lane.tail_sublist
    exact ⟨(hsub.countP_le).trans hl.1, (hsub.countP_le).trans hl.2⟩
  | notice kind epoch => exact addNotice_bounded kind epoch hl
  | syncAck answerable closing => exact addSyncAck_bounded answerable closing hl

theorem Change.controlLaneLaw {s t : State} (h : Change s t) (hs : ControlLaneLaw s) : ControlLaneLaw t := by
  cases h with
  | powerOn => intro a; simp [State.link, State.reset, AgentLink.powerOn]
  | unwatched h => unfold ControlLaneLaw State.link; rw [h.agentLinks]; exact hs
  | @link a f h =>
    intro b
    rw [State.modLink_link]
    split
    · rename_i he
      subst he
      exact h.bounded (hs b)
    · exact hs b
  | _ => exact hs

theorem Change.waitListLaw {s t : State} (h : Change s t) (hs : WaitListLaw s) : WaitListLaw t := by
  obtain ⟨hlen, htags, hdistinct⟩ := hs
  cases h with
  | powerOn => simp [WaitListLaw, State.reset]
  | unwatched h => unfold WaitListLaw; rw [h.waitList]; exact ⟨hlen, htags, hdistinct⟩
  | @entries l h =>
    have hkeys : (s.waitList.map entryKey).Pairwise fun k m => k.1 = m.1 → k.2.1 ≠ m.2.1 :=
      List.pairwise_map.mpr hdistinct
    refine ⟨?_, fun e he => ?_, List.pairwise_map.mp (hkeys.sublist h)⟩
    · have hle := h.length_le
      simp only [List.length_map] at hle
      exact hle.trans hlen
    · obtain ⟨f, hf, hkey⟩ := List.mem_map.mp (h.subset (List.mem_map_of_mem he))
      have ht : f.tag = e.tag := congrArg (fun k => k.2.1) hkey
      exact ht ▸ htags f hf
  | @entryJoins e hroom htag =>
    obtain ⟨hmax, hfree⟩ := htag
    refine ⟨by simpa using hroom, fun f hf => ?_, ?_⟩
    · rcases List.mem_append.mp hf with hold | hnew
      · exact htags f hold
      · exact List.mem_singleton.mp hnew ▸ hmax
    · refine List.pairwise_append.mpr ⟨hdistinct, List.pairwise_singleton _ _, fun f hf g hg => ?_⟩
      exact List.mem_singleton.mp hg ▸ hfree f hf
  | _ => exact ⟨hlen, htags, hdistinct⟩

end Sys2Proof.Laws
end

section
/-!
SUPPORT. Every named operation of the model is a run of small changes; so is every command. In the order of the model's
files.
-/

namespace Sys2Proof.Laws

-- One lemma at a time: checked at once, so many would start more threads than the memory limit of check.sh allows.
set_option Elab.async false

open Sys2Proof.Machine Sys2Proof.Safety

/-! ## Changes of one block -/

section
variable (s : State)

theorem modSendList_changes (a : AgentId) (f : List RecallMessage → List RecallMessage) :
    Changes s (s.modSendList a f) := .single (.unwatched {})

theorem modMember_changes (a : AgentId) (f : ChurnMember → ChurnMember) : Changes s (s.modMember a f) :=
  .single (.unwatched {})

theorem modMgmt_changes (f : MgmtLink → MgmtLink) : Changes s (s.modMgmt f) :=
  .single (.unwatched {})

theorem modSweep_changes (f : Sweep → Sweep) : Changes s (s.modSweep f) :=
  .single (.unwatched {})

theorem report_changes (r : Report) : Changes s (s.report r) := .single (.queue (.append r))

/-- A link changes and its control lane stays. -/
theorem modLink_changes (a : AgentId) (f : AgentLink → AgentLink)
    (h : ∀ l, (f l).control = l.control := by intro _; rfl) :
    Changes s (s.modLink a f) := .single (.link ((h (s.link a)).symm ▸ .same))

/-- A session changes; a lease it then holds may stand. -/
theorem modSession_changes (a : AgentId) {f : Session → Session}
    (h : ∀ d, (f (s.session a)).state = .active d → MayStand s d) : Changes s (s.modSession a f) := by
  refine .single (.sessions fun b d hd => ?_)
  rw [PerAgent.get_modify] at hd
  split at hd
  · rename_i hb
    subst hb
    exact h d hd
  · exact mayStand_lease hd

/-- A session changes and its state stays. -/
theorem modSession_changes_of_state (a : AgentId) (f : Session → Session)
    (h : ∀ x, (f x).state = x.state := by intro _; rfl) :
    Changes s (s.modSession a f) := modSession_changes s a fun _ hd => mayStand_lease (h (s.session a) ▸ hd)

theorem modCounters_changes (a : AgentId) (f : AgentCounters → AgentCounters) : Changes s (s.modCounters a f) :=
  modSession_changes_of_state s a _

/-- The records in a slot change; the recalls they then have may stand. -/
theorem modRecord_changes (slot : Nat) {f : GrantRecord → GrantRecord}
    (h : ∀ r ∈ s.grantTable.records, ∀ rc, (f r).recallRecord = some rc → MayStand s rc.deadline) :
    Changes s (s.modRecord slot f) := by
  refine .single (.records fun r hr rc hrc => ?_)
  obtain ⟨q, hq, rfl⟩ := List.mem_map.mp hr
  split at hrc
  · exact h q hq rc hrc
  · exact mayStand_recall hq hrc

/-- The records in a slot change and their recalls stay. -/
theorem modRecord_changes_of_recall (slot : Nat) (f : GrantRecord → GrantRecord)
    (h : ∀ r, (f r).recallRecord = r.recallRecord := by intro _; rfl) : Changes s (s.modRecord slot f) :=
  modRecord_changes s slot fun r hr _ hrc => mayStand_recall hr (h r ▸ hrc)

/-- Records leave the table. -/
theorem setRecords_changes {l : List GrantRecord} (h : l ⊆ s.grantTable.records) : Changes s (s.setRecords l) :=
  .single (.records fun _ hr _ hrc => mayStand_recall (h hr) hrc)

/-- Entries leave the Wait List. -/
theorem setWaitList_changes {l : List WaitEntry} (h : l.Sublist s.waitList) : Changes s (s.setWaitList l) :=
  .single (.entries (h.map entryKey))

theorem foldl_changes {α : Type} {f : State → α → State} (h : ∀ t x, Changes t (f t x)) :
    ∀ (l : List α) (s : State), Changes s (l.foldl f s)
  | [], _ => .refl
  | x :: l, s => (h s x).trans (foldl_changes h l (f s x))

end

/-! ## The shared operations -/

theorem protocolError_changes (s : State) (a : AgentId) (kind : ProtocolErrorKind) (code : Nat) :
    Changes s (s.protocolError a kind code) := (modCounters_changes ..).trans (report_changes ..)

theorem mgmtProtocolError_changes (s : State) (kind : ProtocolErrorKind) (code : Nat) :
    Changes s (s.mgmtProtocolError kind code) := (modMgmt_changes ..).trans (report_changes ..)

theorem placeNotice_changes (s : State) (a : AgentId) (kind : NoticeKind) (epoch : Nat) :
    Changes s (s.placeNotice a kind epoch) := .single (.link (.notice kind epoch))

theorem placeReply_changes (s : State) (a : AgentId) (tag : Nat) (reply : AgentReply) :
    Changes s (s.placeReply a tag reply) := modLink_changes s a _

theorem refuse_changes (s : State) (a : AgentId) (tag : Nat) (code : RefusalCode) : Changes s (s.refuse a tag code) :=
  placeReply_changes ..

theorem linkError_changes (s : State) (a : AgentId) (cause : LinkCause) : Changes s (s.linkError a cause) :=
  (modLink_changes s a _).trans (report_changes ..)

theorem mgmtLinkError_changes (s : State) (cause : LinkCause) : Changes s (s.mgmtLinkError cause) :=
  (modMgmt_changes ..).trans (report_changes ..)

theorem renewLease_changes (s : State) (a : AgentId) (epoch : Nat) : Changes s (s.renewLease a epoch) := by
  unfold State.renewLease
  split
  · split
    · refine modSession_changes s a fun d hd => .inr ?_
      obtain rfl : s.timeBase + s.params.leasePeriod = d := SessionState.active.inj hd
      exact Nat.le_add_right ..
    · exact .refl
  · exact .refl

/-! ## Agent links (Chapter 7) -/

theorem signalFound_changes (s : State) (link : LinkId) : Changes s (s.signalFound link) := by
  cases link with
  | agent a =>
    unfold State.signalFound
    dsimp only
    split
    · exact (modLink_changes s a _).trans (report_changes ..)
    · exact .refl
  | mgmt =>
    unfold State.signalFound
    dsimp only
    split
    · exact (modMgmt_changes ..).trans (report_changes ..)
    · exact .refl

theorem signalLost_changes (s : State) (link : LinkId) : Changes s (s.signalLost link) := by
  cases link with
  | agent a =>
    unfold State.signalLost
    dsimp only
    split
    · exact .refl
    · exact (modLink_changes s a _).trans (report_changes ..)
  | mgmt =>
    unfold State.signalLost
    dsimp only
    split
    · exact .refl
    · exact (modMgmt_changes ..).trans (report_changes ..)

/-- A good SYNC's effect on the link places its SYNC_ACK and nothing else in the control lane (R143). -/
theorem synced_lane (l : AgentLink) (recallWindow count : Nat) :
    LaneChange l.control (l.synced recallWindow count).control := by
  unfold AgentLink.synced
  split
  · exact .syncAck ..
  · exact .syncAck ..

theorem goodSync_changes (s : State) (a : AgentId) (epoch count : Nat) : Changes s (s.goodSync a epoch count) := by
  refine .trans ?_ (.single (.link (synced_lane ..)))
  split
  · exact (renewLease_changes s a epoch).trans (report_changes ..)
  · exact renewLease_changes s a epoch

theorem syncArrives_changes (s : State) (a : AgentId) (f : RawFrame) : Changes s (s.syncArrives a f) := by
  unfold State.syncArrives
  split
  · exact protocolError_changes ..
  · exact goodSync_changes ..

theorem addRecallCredit_changes (s : State) (a : AgentId) (x : Nat) : Changes s (s.addRecallCredit a x) :=
  modLink_changes s a _

theorem answerableArrives_changes (s : State) (a : AgentId) (k : AnswerableKind) (f : RawFrame) :
    Changes s (s.answerableArrives a k f) := by
  unfold State.answerableArrives
  split
  · exact linkError_changes ..
  · exact (addRecallCredit_changes ..).trans (modLink_changes _ a _)

theorem closingArrives_changes (s : State) (a : AgentId) (k : ClosingKind) (f : RawFrame) :
    Changes s (s.closingArrives a k f) := by
  unfold State.closingArrives
  split
  · exact linkError_changes ..
  · exact (addRecallCredit_changes ..).trans (modLink_changes _ a _)

theorem unknownArrives_changes (s : State) (a : AgentId) (f : RawFrame) : Changes s (s.unknownArrives a f) := by
  unfold State.unknownArrives
  split
  · exact linkError_changes ..
  · exact ((addRecallCredit_changes ..).trans (modLink_changes _ a _)).trans (protocolError_changes ..)

theorem crcFailure_changes (s : State) (a : AgentId) : Changes s (s.crcFailure a) := modCounters_changes ..

theorem arrivesInRun_changes (s : State) (a : AgentId) (bytes : List Byte) : Changes s (s.arrivesInRun a bytes) := by
  unfold State.arrivesInRun
  split
  · exact linkError_changes ..
  · exact (crcFailure_changes ..).trans (linkError_changes ..)
  · split
    · exact syncArrives_changes ..
    · exact answerableArrives_changes ..
    · exact closingArrives_changes ..
    · exact unknownArrives_changes ..

theorem arrivesInWaitSync_changes (s : State) (a : AgentId) (bytes : List Byte) :
    Changes s (s.arrivesInWaitSync a bytes) := by
  unfold State.arrivesInWaitSync
  split
  · exact .refl
  · exact crcFailure_changes ..
  · split
    · exact syncArrives_changes ..
    · exact .refl

theorem frameArrives_changes (s : State) (a : AgentId) (bytes : List Byte) : Changes s (s.frameArrives a bytes) := by
  unfold State.frameArrives
  split
  · exact .refl
  · exact arrivesInWaitSync_changes ..
  · exact arrivesInRun_changes ..

theorem leaveLane_changes (s : State) (a : AgentId) (choice : AgentSend) : Changes s (s.leaveLane a choice) := by
  cases choice with
  | control frame => exact .single (.link .sent)
  | reply r =>
    have hsent : Changes s (s.modLink a fun l => { l with replies := l.replies.sendHead, turn := .recallLane }) :=
      modLink_changes s a _
    unfold State.leaveLane
    dsimp only
    split
    · exact hsent.trans (modCounters_changes ..)
    · exact hsent
  | recallMessage m => exact (modLink_changes s a _).trans (modSendList_changes ..)
  | credit => exact .refl

theorem agentLinkSends_changes (s : State) (a : AgentId) : Changes s (s.agentLinkSends a) := by
  unfold State.agentLinkSends
  split
  · split
    · exact .refl
    · exact (leaveLane_changes ..).trans (modLink_changes _ a _)
  · exact .refl

/-! ## Churn Monitor (Chapter 6) -/

theorem raiseAlarm_changes (s : State) (a : AgentId) : Changes s (s.raiseAlarm a) := by
  have hraised : ∀ r, Changes s ((s.modMember a fun m => { m with alarm := true }).report r) := fun r =>
    (modMember_changes ..).trans (report_changes ..)
  unfold State.raiseAlarm
  dsimp only
  split
  · exact (hraised _).trans (placeNotice_changes ..)
  · exact hraised _

theorem testAlarm_changes (s : State) (a : AgentId) : Changes s (s.testAlarm a) := by
  unfold State.testAlarm
  split
  · exact raiseAlarm_changes ..
  · exact .refl

theorem recordOutcome_changes (s : State) (a : AgentId) (o : ChurnOutcome) : Changes s (s.recordOutcome a o) := by
  unfold State.recordOutcome
  split
  · exact (modMember_changes ..).trans (testAlarm_changes ..)
  · exact .refl

theorem clearGroupWindows_changes (s : State) (g : GroupId) : Changes s (s.clearGroupWindows g) := by
  refine foldl_changes (fun t a => ?_) _ s
  split
  · exact modMember_changes ..
  · exact .refl

/-! ## Grant Table (Chapter 1) -/

/-- The records after one has entered the index are the new one and those before. -/
theorem mem_insertRecord {r q : GrantRecord} : ∀ {l : List GrantRecord}, q ∈ insertRecord r l → q = r ∨ q ∈ l
  | [], h => .inl (List.mem_singleton.mp h)
  | x :: l, h => by
    unfold insertRecord at h
    split at h
    · exact List.mem_cons.mp h
    · rcases List.mem_cons.mp h with rfl | htail
      · exact .inr List.mem_cons_self
      · exact (mem_insertRecord htail).imp id (List.mem_cons_of_mem x)

theorem createRecord_changes (s : State) (c : Claim) (epoch : Nat) : Changes s (s.createRecord c epoch) := by
  unfold State.createRecord
  split
  · exact .refl
  · refine .single (.records fun r hr rc hrc => ?_)
    rcases mem_insertRecord hr with rfl | hold
    · exact absurd hrc (by simp [Claim.newRecord])
    · exact mayStand_recall hold hrc

theorem upgradeRecord_changes (s : State) (slot : Nat) : Changes s (s.upgradeRecord slot) :=
  (modRecord_changes_of_recall s slot fun r => { r with mode := .exclusive, token := s.nextToken }).trans
    (.single (.unwatched {}))

/-! ## Recall Engine (Chapter 3) -/

theorem dropConvert_changes (s : State) (a : AgentId) (slot : Nat) (code : RefusalCode) :
    Changes s (s.dropConvert a slot code) := by
  unfold State.dropConvert
  split
  · exact .refl
  · exact (setWaitList_changes s List.eraseP_sublist).trans (refuse_changes ..)

/-- A recall set on the records in a slot, with a deadline that may stand. -/
theorem withRecall_changes (s : State) (slot : Nat) {rc : RecallRecord} (h : MayStand s rc.deadline) :
    Changes s (s.modRecord slot fun x => x.withRecall (some rc)) := by
  refine modRecord_changes s slot fun _ _ rc' hrc => ?_
  obtain rfl : rc = rc' := Option.some.inj hrc
  exact h

theorem issueRecall_changes (s : State) (r : GrantRecord) (wanted : Wanted) (cause : RecallCause) :
    Changes s (s.issueRecall r wanted cause) := by
  have hset := withRecall_changes s r.slot
    (rc := { wanted := wanted, cause := cause, attempts := 1, deadline := s.timeBase + s.params.recallTimeout })
    (.inr (Nat.le_add_right ..))
  exact ((hset.trans (modSendList_changes ..)).trans (modCounters_changes ..)).trans (dropConvert_changes ..)

theorem escalateRecall_changes (s : State) (r : GrantRecord) (rc : RecallRecord) (cause : RecallCause)
    (h : MayStand s rc.deadline) : Changes s (s.escalateRecall r rc cause) :=
  (withRecall_changes s r.slot (rc := { rc with wanted := .release, cause := cause }) h).trans (modSendList_changes ..)

theorem requestRecall_changes (s : State) (slot : Nat) (wanted : Wanted) (cause : RecallCause) :
    Changes s (s.requestRecall slot wanted cause) := by
  unfold State.requestRecall
  split
  · exact .refl
  · rename_i r hr
    split
    · exact issueRecall_changes ..
    · rename_i rc hrc
      split
      · exact escalateRecall_changes s r rc cause (mayStand_recall (List.mem_of_find?_eq_some hr) hrc)
      · exact .refl

theorem resendRecall_changes (s : State) (r : GrantRecord) (rc : RecallRecord) : Changes s (s.resendRecall r rc) :=
  (withRecall_changes s r.slot (.inr (Nat.le_add_right ..))).trans (modSendList_changes ..)

theorem recallConflicts_changes (s : State) (c : Claim) : Changes s (s.recallConflicts c) :=
  foldl_changes (fun _ _ => requestRecall_changes ..) _ s

/-! ## Sweep Engine (Chapter 5) -/

theorem endSweep_changes (s : State) (status : SweepEnd) : Changes s (s.endSweep status) := by
  unfold State.endSweep
  split
  · exact .refl
  · exact (report_changes ..).trans (.single (.unwatched {}))

theorem completeIfDrained_changes (s : State) : Changes s s.completeIfDrained := by
  unfold State.completeIfDrained
  split
  · split
    · exact endSweep_changes ..
    · exact .refl
  · exact .refl

theorem resolvePending_changes (s : State) (how : Resolution) : Changes s (s.resolvePending how) :=
  (modSweep_changes ..).trans (completeIfDrained_changes ..)

/-! ## Wait List (Chapter 2) -/

theorem grant_changes (s : State) (c : Claim) (tag epoch : Nat) : Changes s (s.grant c tag epoch) := by
  unfold State.grant
  split
  · exact ((createRecord_changes ..).trans (placeReply_changes ..)).trans (modCounters_changes ..)
  · exact ((upgradeRecord_changes ..).trans (placeReply_changes ..)).trans (modCounters_changes ..)

theorem appendEntry_changes {s : State} {c : Claim} {tag : Nat} (epoch maxWait : Nat) (o : Obstacle)
    (hroom : s.waitList.length < Config.waitCapacity) (htag : TagFree s c.agent tag) :
    Changes s (s.appendEntry c tag epoch maxWait o) := by
  have hjoins : ∀ state, Changes s (s.setWaitList
      (s.waitList ++ [c.entry tag epoch (s.timeBase + maxWait) state])) := fun state =>
    .single (.entryJoins hroom htag (Nat.le_add_right ..))
  unfold State.appendEntry
  dsimp only
  split
  · exact (hjoins _).trans (recallConflicts_changes ..)
  · exact hjoins _

theorem admission_changes {s : State} {c : Claim} {tag : Nat} (epoch maxWait : Nat) (htag : TagFree s c.agent tag) :
    Changes s (s.admission c tag epoch maxWait) := by
  cases hobstacle : s.obstacle s.waitList c with
  | none =>
    rw [admission_granted hobstacle]
    exact grant_changes ..
  | some o =>
    rw [admission_blocked hobstacle]
    split
    · exact refuse_changes ..
    · split
      · exact refuse_changes ..
      · split
        · exact refuse_changes ..
        · rename_i hroom
          exact appendEntry_changes epoch maxWait o (Nat.lt_of_not_le hroom) htag

/-- Which entries wait, under which tags and until when, is not touched by a change of one entry's state. -/
theorem setEntryState_changes (s : State) (place : Nat) (state : EntryState) :
    Changes s (s.setEntryState place state) := by
  have hkeys : (s.waitList.modify place fun e => { e with state := state }).map entryKey = s.waitList.map entryKey := by
    refine List.ext_getElem? fun i => ?_
    rw [List.getElem?_map, List.getElem?_map, List.getElem?_modify, Option.map_eq_map, Option.map_map]
    congr 1
    funext e
    dsimp only [Function.comp]
    split <;> rfl
  exact .single (.entries (hkeys ▸ List.Sublist.refl _))

theorem visitEntry_changes (s : State) (place : Nat) (e : WaitEntry) : Changes s (s.visitEntry place e).1 := by
  unfold State.visitEntry
  split
  · exact (setWaitList_changes s (List.eraseIdx_sublist ..)).trans (grant_changes ..)
  · exact setEntryState_changes ..
  · exact .refl
  · exact setEntryState_changes ..
  · exact .refl
  · exact (setEntryState_changes ..).trans (recallConflicts_changes ..)
  · exact .refl
  · exact setEntryState_changes ..

theorem walkFrom_changes : ∀ (fuel place : Nat) (s : State), Changes s (State.walkFrom fuel place s)
  | 0, _, _ => .refl
  | fuel + 1, place, s => by
    unfold State.walkFrom
    split
    · exact .refl
    · exact (visitEntry_changes ..).trans (walkFrom_changes fuel ..)

theorem reevaluate_changes (s : State) : Changes s s.reevaluate := walkFrom_changes ..

theorem refuseEntries_changes (s : State) (l : List WaitEntry) (code : RefusalCode) :
    Changes s (s.refuseEntries l code) := foldl_changes (fun _ _ => refuse_changes ..) l s

theorem removeEntries_changes (s : State) (a : AgentId) : Changes s (s.removeEntries a) :=
  setWaitList_changes s List.filter_sublist

theorem expelEntry_changes (s : State) (a : AgentId) (tag : Nat) (code : RefusalCode) :
    Changes s (s.expelEntry a tag code) :=
  ((setWaitList_changes s List.eraseP_sublist).trans (refuse_changes ..)).trans (reevaluate_changes _)

/-! ## Removal, downgrade and the end of a session (R21, R23, R85, R93) -/

theorem detachRecord_changes (s : State) (cause : RemovalCause) (r : GrantRecord) :
    Changes s (s.detachRecord cause r) := by
  have hwithdrawn : Changes s (if r.recallRecord.isSome then s.withdrawMessage r else s) := by
    split
    · exact modSendList_changes ..
    · exact .refl
  have hremoved := hwithdrawn.trans
    (setRecords_changes _ (List.filter_sublist (p := fun q => q.slot != r.slot)).subset)
  unfold State.detachRecord
  dsimp only
  split
  · exact hremoved.trans (resolvePending_changes ..)
  · exact hremoved

theorem removeRecord_changes (s : State) (cause : RemovalCause) (r : GrantRecord) :
    Changes s (s.removeRecord cause r) := by
  cases cause with
  | release =>
    exact ((detachRecord_changes ..).trans (recordOutcome_changes ..)).trans (dropConvert_changes ..)
  | leave => exact detachRecord_changes ..
  | fencing => exact detachRecord_changes ..

theorem removeRecords_changes (s : State) (cause : RemovalCause) (a : AgentId) :
    Changes s (s.removeRecords cause a) := foldl_changes (fun _ _ => removeRecord_changes ..) _ s

theorem downgradeRecord_changes (s : State) (r : GrantRecord) : Changes s (s.downgradeRecord r) := by
  unfold State.downgradeRecord
  extract_lets satisfied leavesPending s1 s2 s3
  have h1 : Changes s s1 := by
    refine modRecord_changes s r.slot fun q hq rc hrc => ?_
    dsimp only at hrc
    split at hrc
    · exact absurd hrc (by simp)
    · exact mayStand_recall hq hrc
  have h2 : Changes s s2 := by
    unfold s2
    split
    · exact h1.trans (modSendList_changes ..)
    · exact h1
  have h3 : Changes s s3 := by
    unfold s3
    split
    · exact h2.trans (resolvePending_changes ..)
    · exact h2
  split
  · exact h3.trans (recordOutcome_changes ..)
  · exact h3

theorem endSession_changes (s : State) (a : AgentId) : Changes s (s.endSession a) :=
  calc
    Changes s (s.removeEntries a) := removeEntries_changes ..
    Changes _ ((s.removeEntries a).refuseEntries (s.entriesOf a) .sessionEnded) := refuseEntries_changes ..
    Changes _ (State.removeRecords _ .leave a) := removeRecords_changes ..
    Changes _ (s.endSession a) := modSendList_changes ..

theorem fenceSteps_changes (s : State) (a : AgentId) (cause : FenceCause) : Changes s (s.fenceSteps a cause) := by
  unfold State.fenceSteps
  extract_lets epoch s1 s2 s3 s4 s5 s6 s7 s8
  calc
    Changes s s1 := removeEntries_changes ..
    Changes _ s2 := modLink_changes _ a _
    Changes _ s3 := removeRecords_changes ..
    Changes _ s4 := modSendList_changes ..
    Changes _ s5 := modSession_changes _ a fun _ hd => by simp at hd
    Changes _ s6 := modMember_changes ..
    Changes _ s7 := modLink_changes _ a _
    Changes _ s8 := placeNotice_changes ..
    Changes _ _ := report_changes ..

theorem fence_changes (s : State) (a : AgentId) (cause : FenceCause) : Changes s (s.fence a cause) :=
  (fenceSteps_changes ..).trans (reevaluate_changes _)

/-! ## Answerable frames -/

theorem afterTakingAnswerable_changes (s : State) (a : AgentId) (epoch : Nat) :
    Changes s (s.afterTakingAnswerable a epoch) := (modLink_changes s a _).trans (renewLease_changes ..)

/-- A taking is a run of small changes when what its kind's rule does is one. -/
theorem onAnswerable_changes {a : AgentId} {act : State → Frame AnswerableKind → State}
    (h : ∀ t f, Changes t (act t f)) (s : State) (k : AnswerableKind) : Changes s (s.onAnswerable a k act) := by
  rcases onAnswerable_cases s a k act with ⟨-, hidle⟩ | ⟨f, rest, -, htaken⟩
  · rw [hidle]
  · rw [htaken]
    exact (afterTakingAnswerable_changes ..).trans (h ..)

theorem startSession_changes (s : State) (a : AgentId) (tag window : Nat) :
    Changes s (s.startSession a tag window) := by
  unfold State.startSession
  extract_lets epoch s1 s2
  calc
    Changes s s1 := modSession_changes s a fun d hd => by
      obtain rfl : s.timeBase + s.params.leasePeriod = d := SessionState.active.inj hd
      exact .inr (Nat.le_add_right ..)
    Changes _ s2 := modLink_changes _ a _
    Changes _ _ := placeReply_changes ..

theorem handleJoin_changes (a : AgentId) (s : State) (f : Frame AnswerableKind) :
    Changes s (State.handleJoin a s f) := by
  unfold State.handleJoin State.acceptJoin
  split
  · exact refuse_changes ..
  · split
    · exact ((endSession_changes ..).trans (startSession_changes ..)).trans (reevaluate_changes _)
    · exact startSession_changes ..

/-- An ACQUIRE that its field checks do not refuse carries a free tag (R32). -/
theorem tagFree_of_acquireRefusal {s : State} {a : AgentId} {tag : Nat} {q : AcquireFields}
    (h : s.acquireRefusal a tag q = none) : TagFree s a tag := by
  refine (tagPasses_iff s a tag).mp ?_
  by_contra hbad
  simp [State.acquireRefusal, Bool.eq_false_of_not_eq_true hbad] at h

theorem handleAcquire_changes (a : AgentId) (s : State) (f : Frame AnswerableKind) :
    Changes s (State.handleAcquire a s f) := by
  unfold State.handleAcquire
  split
  · exact refuse_changes ..
  · split
    · exact refuse_changes ..
    · split
      · exact refuse_changes ..
      · rename_i hpass
        exact admission_changes _ _ (tagFree_of_acquireRefusal hpass)

theorem convertUp_changes {s : State} {a : AgentId} {tag : Nat} (epoch maxWait : Nat) (r : GrantRecord)
    (htag : TagFree s a tag) : Changes s (s.convertUp a tag epoch maxWait r) := by
  unfold State.convertUp
  split
  · exact refuse_changes ..
  · exact admission_changes epoch maxWait htag

theorem convertSubject_changes {s : State} {a : AgentId} {tag : Nat} (epoch : Nat) (q : ConvertFields)
    (htag : TagFree s a tag) : Changes s (s.convertSubject a tag epoch q) := by
  unfold State.convertSubject
  split
  · exact refuse_changes ..
  · split
    · exact refuse_changes ..
    · split
      · exact refuse_changes ..
      · split
        · exact ((downgradeRecord_changes ..).trans (reevaluate_changes _)).trans (placeReply_changes ..)
        · exact convertUp_changes epoch _ _ htag

theorem handleConvert_changes (a : AgentId) (s : State) (f : Frame AnswerableKind) :
    Changes s (State.handleConvert a s f) := by
  unfold State.handleConvert
  split
  · exact refuse_changes ..
  · split
    · exact refuse_changes ..
    · split
      · rename_i hpass
        exact convertSubject_changes _ _ ((tagPasses_iff ..).mp hpass)
      · exact refuse_changes ..

theorem handleQuery_changes (a : AgentId) (s : State) (f : Frame AnswerableKind) :
    Changes s (State.handleQuery a s f) := by
  unfold State.handleQuery
  split
  · exact refuse_changes ..
  · split
    · exact refuse_changes ..
    · split
      · exact refuse_changes ..
      · split
        · exact refuse_changes ..
        · exact placeReply_changes ..

theorem leaveSession_changes (s : State) (a : AgentId) (tag : Nat) : Changes s (s.leaveSession a tag) :=
  calc
    Changes s (s.endSession a) := endSession_changes ..
    Changes _ ((s.endSession a).placeReply a tag .left) := placeReply_changes ..
    Changes _ (State.modSession _ a fun x => { x with state := .offline }) :=
      modSession_changes _ a fun _ hd => by simp at hd
    Changes _ (s.leaveSession a tag) := reevaluate_changes _

theorem handleLeave_changes (a : AgentId) (s : State) (f : Frame AnswerableKind) :
    Changes s (State.handleLeave a s f) := by
  unfold State.handleLeave
  split
  · exact refuse_changes ..
  · split
    · exact refuse_changes ..
    · exact leaveSession_changes ..

/-! ## Closing frames -/

theorem afterTakingClosing_changes (s : State) (a : AgentId) (epoch : Nat) :
    Changes s (s.afterTakingClosing a epoch) := (modLink_changes s a _).trans (renewLease_changes ..)

theorem closingChecks_changes {a : AgentId} {act : State → Frame ClosingKind → State}
    (h : ∀ t f, Changes t (act t f)) (s : State) (f : Frame ClosingKind) :
    Changes s (State.closingChecks a act s f) := by
  unfold State.closingChecks
  split
  · exact modCounters_changes ..
  · split
    · exact modCounters_changes ..
    · exact modCounters_changes ..
    · split
      · exact protocolError_changes ..
      · split
        · exact protocolError_changes ..
        · exact h s f

theorem onClosing_changes {a : AgentId} {act : State → Frame ClosingKind → State} (h : ∀ t f, Changes t (act t f))
    (s : State) (k : ClosingKind) : Changes s (s.onClosing a k act) := by
  rcases onClosing_cases s a k act with ⟨-, hidle⟩ | ⟨f, rest, -, htaken⟩
  · rw [hidle]
  · rw [htaken]
    exact (afterTakingClosing_changes ..).trans (closingChecks_changes h ..)

theorem handleRelease_changes (a : AgentId) (s : State) (f : Frame ClosingKind) :
    Changes s (State.handleRelease a s f) := by
  unfold State.handleRelease
  split
  · exact protocolError_changes ..
  · exact (removeRecord_changes ..).trans (reevaluate_changes _)

theorem handleDowngrade_changes (a : AgentId) (s : State) (f : Frame ClosingKind) :
    Changes s (State.handleDowngrade a s f) := by
  unfold State.handleDowngrade
  split
  · exact protocolError_changes ..
  · split
    · exact modCounters_changes ..
    · exact (downgradeRecord_changes ..).trans (reevaluate_changes _)

theorem handleCancel_changes (a : AgentId) (s : State) (f : Frame ClosingKind) :
    Changes s (State.handleCancel a s f) := by
  unfold State.handleCancel
  split
  · exact modCounters_changes ..
  · exact expelEntry_changes ..

/-! ## Sweep steps (R106) -/

theorem sweepRecall_changes (s : State) (slot : Nat) (wanted : Wanted) : Changes s (s.sweepRecall slot wanted) :=
  ((requestRecall_changes ..).trans (modRecord_changes_of_recall _ slot _)).trans (modSweep_changes ..)

theorem sweepAction_changes (s : State) (kind : SweepKind) (r : GrantRecord) : Changes s (s.sweepAction kind r) := by
  unfold State.sweepAction
  split
  · exact sweepRecall_changes ..
  · exact sweepRecall_changes ..
  · exact .refl
  · exact .refl

theorem sweepReach_changes (s : State) (w : Sweep) (r : GrantRecord) : Changes s (s.sweepReach w r) := by
  have hcursor := modSweep_changes s fun w => { w with phase := .scanning (.after r.extent.start r.slot) }
  unfold State.sweepReach
  dsimp only
  split
  · exact (hcursor.trans (modSweep_changes ..)).trans (sweepAction_changes ..)
  · exact hcursor

theorem finishScan_changes (s : State) : Changes s s.finishScan :=
  (modSweep_changes ..).trans (completeIfDrained_changes _)

theorem walkAfterStep_changes {s t : State} (h : Changes s t) : Changes s (s.walkAfterStep t) := by
  unfold State.walkAfterStep
  split
  · exact h.trans (reevaluate_changes t)
  · exact h

theorem sweepOnce_changes (s : State) : Changes s s.sweepOnce := by
  unfold State.sweepOnce
  split
  · exact .refl
  · split
    · exact .refl
    · split
      · exact walkAfterStep_changes (finishScan_changes s)
      · split
        · exact walkAfterStep_changes (sweepReach_changes ..)
        · exact walkAfterStep_changes (finishScan_changes s)

theorem clearPending_changes (s : State) : Changes s s.clearPending := by
  refine .single (.records fun r hr rc hrc => ?_)
  obtain ⟨q, hq, rfl⟩ := List.mem_map.mp hr
  exact mayStand_recall hq hrc

/-! ## Management commands (Chapter 8) -/

/-- What a command comes to: a refusal, or a run of small changes from `s`. -/
def AnswerChanges (s : State) : Answer → Prop
  | .refuse _ => True
  | .done t _ => Changes s t

theorem answerChanges_done {s t : State} {result : MgmtResult} (h : Changes s t) : AnswerChanges s (.done t result) := h

/-- A test that refuses the command when it fails. -/
theorem answerChanges_if {s : State} {p : Prop} [Decidable p] {x : Answer} {status : Status}
    (h : AnswerChanges s x) : AnswerChanges s (if p then x else .refuse status) := by
  split
  · exact h
  · trivial

/-- A test that refuses the command when it holds. -/
theorem answerChanges_unless {s : State} {p : Prop} [Decidable p] {x : Answer} {status : Status}
    (h : AnswerChanges s x) : AnswerChanges s (if p then .refuse status else x) := by
  split
  · trivial
  · exact h

theorem placeMgmtReply_changes (s : State) (r : MgmtReply) : Changes s (s.placeMgmtReply r) := by
  unfold State.placeMgmtReply
  exact modMgmt_changes ..

theorem onCommand_changes {act : State → List Byte → Answer} (h : ∀ t body, AnswerChanges t (act t body)) (s : State)
    (k : CommandKind) : Changes s (s.onCommand k act) := by
  rcases onCommand_cases s k act with ⟨-, hidle⟩ | ⟨f, rest, -, htaken⟩
  · rw [hidle]
  · rw [htaken]
    have htaking : Changes s s.afterTakingCommand := modMgmt_changes ..
    have hact := h s.afterTakingCommand f.body
    cases hanswer : act s.afterTakingCommand f.body with
    | refuse status => exact htaking.trans (placeMgmtReply_changes ..)
    | done t result =>
      rw [hanswer] at hact
      have hdone : Changes s.afterTakingCommand t := hact
      exact (htaking.trans hdone).trans (placeMgmtReply_changes ..)

theorem onAgent_changes {act : State → AgentId → Answer} (h : ∀ t a, AnswerChanges t (act t a)) (s : State)
    (body : List Byte) : AnswerChanges s (State.onAgent act s body) := by
  unfold State.onAgent
  split
  · trivial
  · split
    · trivial
    · exact h ..

/-- Where each agent's session is changed in turn and keeps its state, as CONFIGURE does (R162), every state is kept. -/
theorem foldl_modify_state {f : AgentId → Session → Session} (h : ∀ a x, (f a x).state = x.state) (b : AgentId) :
    ∀ (l : List AgentId) (p : PerAgent Session),
      ((l.foldl (fun p a => p.modify a (f a)) p).get b).state = (p.get b).state
  | [], _ => rfl
  | a :: l, p => by
    rw [List.foldl_cons, foldl_modify_state h b l, PerAgent.get_modify]
    split
    · exact h ..
    · rfl

theorem applyConfigure_changes (s : State) (q : ConfigureFields) : Changes s (s.applyConfigure q) := by
  have hsessions : Changes s { s with sessions := (s.applyConfigure q).sessions } := by
    refine .single (.sessions fun a d hd => mayStand_lease (a := a) ?_)
    rw [← hd]
    exact (foldl_modify_state (f := fun a x =>
      { x with admitFlag := q.admitMask.getLsbD a.val, group := q.groupOf.get a }) (fun _ _ => rfl) a ..).symm
  exact hsessions.trans (.single (.unwatched {}))

theorem runConfigure_changes (s : State) (body : List Byte) : AnswerChanges s (s.runConfigure body) := by
  unfold State.runConfigure
  refine answerChanges_unless ?_
  split
  · trivial
  · exact applyConfigure_changes ..

theorem setParams_changes (s : State) (f : Params → Params) : Changes s (s.setParams f) :=
  .single (.unwatched {})

theorem setGroup_changes (s : State) (g : GroupId) (f : GroupSettings → GroupSettings) : Changes s (s.setGroup g f) :=
  .single (.unwatched {})

theorem setDirectory_changes (s : State) (d : DirectoryState) : Changes s (s.setDirectory d) :=
  .single (.unwatched {})

/-- A setting of a group that clears its members' windows (R124). -/
theorem setGroup_clear_changes (s : State) (g : GroupId) (f : GroupSettings → GroupSettings) :
    Changes s ((s.setGroup g f).clearGroupWindows g) := (setGroup_changes ..).trans (clearGroupWindows_changes ..)

theorem setGroupParam_changes (s : State) (identifier selector value : Nat) :
    AnswerChanges s (s.setGroupParam identifier selector value) := by
  unfold State.setGroupParam
  split
  · trivial
  · dsimp only
    split
    · exact answerChanges_if (setGroup_clear_changes ..)
    · exact answerChanges_if (setGroup_clear_changes ..)
    · exact answerChanges_if (setGroup_clear_changes ..)
    · exact answerChanges_if (setGroup_changes ..)

theorem setAgentGroup_changes (s : State) (selector value : Nat) :
    AnswerChanges s (s.setAgentGroup selector value) := by
  unfold State.setAgentGroup
  split
  · trivial
  · split
    · trivial
    · exact answerChanges_done ((modSession_changes_of_state s _ _).trans (modMember_changes ..))

theorem setOneParam_changes (s : State) (q : SetParamFields) : AnswerChanges s (s.setOneParam q) := by
  unfold State.setOneParam
  split
  · exact answerChanges_unless (answerChanges_unless (setParams_changes ..))
  · exact answerChanges_if (setParams_changes ..)
  · exact answerChanges_if (setParams_changes ..)
  · exact answerChanges_if (setParams_changes ..)
  · exact setGroupParam_changes ..
  · exact setGroupParam_changes ..
  · exact setGroupParam_changes ..
  · exact setGroupParam_changes ..
  · exact setAgentGroup_changes ..
  · trivial

theorem runSetParam_changes (s : State) (body : List Byte) : AnswerChanges s (s.runSetParam body) := by
  unfold State.runSetParam
  refine answerChanges_unless ?_
  split
  · trivial
  · exact setOneParam_changes ..

theorem runAdmit_changes (s : State) (a : AgentId) : AnswerChanges s (s.runAdmit a) := by
  refine modSession_changes s a fun d hd => mayStand_lease (a := a) ?_
  unfold Session.admitted at hd
  dsimp only at hd
  split at hd
  · exact absurd hd (by simp)
  · exact hd

theorem runEvict_changes (s : State) (a : AgentId) : AnswerChanges s (s.runEvict a) := by
  have hflag : Changes s (s.modSession a fun x => { x with admitFlag := false }) :=
    modSession_changes_of_state s a _
  unfold State.runEvict
  dsimp only
  split
  · exact hflag.trans (fence_changes ..)
  · exact hflag

theorem runAckChurn_changes (s : State) (a : AgentId) : AnswerChanges s (s.runAckChurn a) := modMember_changes ..

theorem runPause_changes (s : State) (body : List Byte) : AnswerChanges s (s.runPause body) := by
  unfold State.runPause
  exact answerChanges_unless (answerChanges_unless (setDirectory_changes ..))

theorem runResume_changes (s : State) (body : List Byte) : AnswerChanges s (s.runResume body) := by
  unfold State.runResume
  exact answerChanges_unless (answerChanges_unless (setDirectory_changes ..))

theorem runSweepStart_changes (s : State) (body : List Byte) : AnswerChanges s (s.runSweepStart body) := by
  unfold State.runSweepStart
  refine answerChanges_unless ?_
  split
  · trivial
  · refine answerChanges_unless ?_
    split
    · trivial
    · exact answerChanges_unless (answerChanges_unless (answerChanges_done (.single (.unwatched {}))))

theorem runSweepAbort_changes (s : State) (body : List Byte) : AnswerChanges s (s.runSweepAbort body) := by
  unfold State.runSweepAbort
  exact answerChanges_unless (answerChanges_unless
    (((clearPending_changes s).trans (endSweep_changes ..)).trans (reevaluate_changes _)))

theorem runQueryExtent_changes (s : State) (body : List Byte) : AnswerChanges s (s.runQueryExtent body) := by
  unfold State.runQueryExtent
  refine answerChanges_unless ?_
  split
  · trivial
  · exact answerChanges_unless (answerChanges_done .refl)

theorem runQueryAgent_changes (s : State) (a : AgentId) : AnswerChanges s (s.runQueryAgent a) :=
  answerChanges_done .refl

theorem readAgentCounters_changes (s : State) (a : AgentId) (clear : Bool) :
    AnswerChanges s (s.readAgentCounters a clear) := by
  unfold State.readAgentCounters
  refine answerChanges_done ?_
  split
  · exact modCounters_changes ..
  · exact .refl

theorem readMgmtCounters_changes (s : State) (clear : Bool) : AnswerChanges s (s.readMgmtCounters clear) := by
  unfold State.readMgmtCounters
  refine answerChanges_done ?_
  split
  · exact modMgmt_changes ..
  · exact .refl

theorem runReadCounters_changes (s : State) (body : List Byte) : AnswerChanges s (s.runReadCounters body) := by
  unfold State.runReadCounters
  split
  · trivial
  · refine answerChanges_unless (answerChanges_unless ?_)
    split
    · exact readAgentCounters_changes ..
    · exact readMgmtCounters_changes ..

theorem runReportResume_changes (s : State) (body : List Byte) : AnswerChanges s (s.runReportResume body) := by
  unfold State.runReportResume
  refine answerChanges_unless ?_
  split
  · exact answerChanges_done (.single (.queue .resume))
  · exact answerChanges_done .refl

theorem resetSession_changes (s : State) (a : AgentId) : Changes s (s.resetSession a) := by
  unfold State.resetSession
  split
  · exact (modSession_changes s a fun _ hd => by simp at hd).trans (placeNotice_changes ..)
  · exact .refl

theorem setSendLists_changes (s : State) (p : PerAgent (List RecallMessage)) :
    Changes s { s with sendLists := p } := .single (.unwatched {})

theorem setChurn_changes (s : State) (m : ChurnMonitor) : Changes s { s with churn := m } :=
  .single (.unwatched {})

theorem resetTables_changes (s : State) : Changes s s.resetTables := by
  unfold State.resetTables
  extract_lets s1 s2 s3 s4 s5
  calc
    Changes s (s.setWaitList []) := setWaitList_changes s (List.nil_sublist _)
    Changes _ s1 := refuseEntries_changes ..
    Changes _ s2 := setRecords_changes _ (List.nil_subset _)
    Changes _ s3 := setSendLists_changes ..
    Changes _ s4 := endSweep_changes ..
    Changes _ s5 := foldl_changes resetSession_changes allAgents s4
    Changes _ _ := setChurn_changes ..

theorem runResetDirectory_changes (s : State) (body : List Byte) : AnswerChanges s (s.runResetDirectory body) := by
  unfold State.runResetDirectory
  exact answerChanges_unless (answerChanges_unless (resetTables_changes s))

/-! ## Deadlines that pass (R2, R48, R66, R89) -/

theorem millisecondTick_changes (s : State) : Changes s (if s.deadlineDue then s else s.timeAdvances) := by
  split
  · exact .refl
  · rename_i hdue
    exact .single (.tick fun hstands => hdue ((deadlineDue_iff_stands s).mpr hstands))

theorem waitDeadlinePasses_changes (s : State) (a : AgentId) (tag : Nat) : Changes s (s.waitDeadlinePasses a tag) := by
  unfold State.waitDeadlinePasses
  split
  · exact .refl
  · split
    · exact expelEntry_changes ..
    · exact .refl

theorem recallDeadlinePasses_changes (s : State) (slot : Nat) : Changes s (s.recallDeadlinePasses slot) := by
  unfold State.recallDeadlinePasses
  split
  · exact .refl
  · split
    · exact .refl
    · split
      · split
        · exact resendRecall_changes ..
        · exact fence_changes ..
      · exact .refl

theorem leaseDeadlinePasses_changes (s : State) (a : AgentId) : Changes s (s.leaseDeadlinePasses a) := by
  unfold State.leaseDeadlinePasses
  split
  · split
    · exact fence_changes ..
    · exact .refl
  · exact .refl

/-! ## LI-M (sections 8.1 and 8.8) -/

theorem mgmtGoodSync_changes (s : State) (count : Nat) : Changes s (s.mgmtGoodSync count) := by
  unfold State.mgmtGoodSync
  refine .trans ?_ (modMgmt_changes ..)
  split
  · exact report_changes ..
  · exact .refl

theorem mgmtSyncArrives_changes (s : State) (f : RawFrame) : Changes s (s.mgmtSyncArrives f) := by
  unfold State.mgmtSyncArrives
  split
  · exact mgmtProtocolError_changes ..
  · exact mgmtGoodSync_changes ..

theorem commandArrives_changes (s : State) (k : CommandKind) (f : RawFrame) : Changes s (s.commandArrives k f) := by
  unfold State.commandArrives
  split
  · exact mgmtLinkError_changes ..
  · exact (modMgmt_changes ..).trans (modMgmt_changes ..)

theorem mgmtUnknownArrives_changes (s : State) (f : RawFrame) : Changes s (s.mgmtUnknownArrives f) := by
  unfold State.mgmtUnknownArrives
  split
  · exact mgmtLinkError_changes ..
  · exact ((modMgmt_changes ..).trans (modMgmt_changes ..)).trans (mgmtProtocolError_changes ..)

theorem mgmtCrcFailure_changes (s : State) : Changes s s.mgmtCrcFailure := by
  unfold State.mgmtCrcFailure State.modMgmtCounters
  exact modMgmt_changes ..

theorem mgmtArrivesInRun_changes (s : State) (bytes : List Byte) : Changes s (s.mgmtArrivesInRun bytes) := by
  unfold State.mgmtArrivesInRun
  split
  · exact mgmtLinkError_changes ..
  · exact (mgmtCrcFailure_changes s).trans (mgmtLinkError_changes ..)
  · split
    · exact mgmtSyncArrives_changes ..
    · exact commandArrives_changes ..
    · exact mgmtUnknownArrives_changes ..

theorem mgmtArrivesInWaitSync_changes (s : State) (bytes : List Byte) : Changes s (s.mgmtArrivesInWaitSync bytes) := by
  unfold State.mgmtArrivesInWaitSync
  split
  · exact .refl
  · exact mgmtCrcFailure_changes s
  · split
    · exact mgmtSyncArrives_changes ..
    · exact .refl

theorem mgmtFrameArrives_changes (s : State) (bytes : List Byte) : Changes s (s.mgmtFrameArrives bytes) := by
  unfold State.mgmtFrameArrives
  split
  · exact .refl
  · exact mgmtArrivesInWaitSync_changes ..
  · exact mgmtArrivesInRun_changes ..

theorem reportAckTaken_changes (s : State) : Changes s s.reportAckTaken := by
  unfold State.reportAckTaken
  split
  · exact .refl
  · split
    · dsimp only
      split
      · exact modMgmt_changes ..
      · exact (modMgmt_changes ..).trans (mgmtProtocolError_changes ..)
    · exact .refl

theorem leaveMgmtLane_changes (s : State) (choice : MgmtSend) : Changes s (s.leaveMgmtLane choice) := by
  cases choice with
  | syncAck n =>
    unfold State.leaveMgmtLane
    exact modMgmt_changes ..
  | reply r =>
    unfold State.leaveMgmtLane
    dsimp only
    split
    · exact modMgmt_changes ..
    · exact (modMgmt_changes ..).trans (modMgmt_changes ..)
  | report head => exact (modMgmt_changes ..).trans (.single (.queue .dropHead))
  | credit => exact .refl

theorem mgmtLinkSends_changes (s : State) : Changes s s.mgmtLinkSends := by
  unfold State.mgmtLinkSends
  split
  · split
    · exact .refl
    · exact (leaveMgmtLane_changes ..).trans (modMgmt_changes ..)
  · exact .refl

/-! ## Every command -/

/-- Every command completes, in a state that a run of small changes reaches. -/
theorem exec_changes (c : Instr) (s : State) : ∃ t, exec c s = .next t ∧ Changes s t := by
  cases c with
  | powerOn => exact ⟨_, rfl, .single .powerOn⟩
  | millisecondTick => exact ⟨_, rfl, millisecondTick_changes s⟩
  | signalFound link => exact ⟨_, rfl, signalFound_changes s link⟩
  | signalLost link => exact ⟨_, rfl, signalLost_changes s link⟩
  | frameArrival a bytes => exact ⟨_, rfl, frameArrives_changes s a bytes⟩
  | join a => exact ⟨_, rfl, onAnswerable_changes (handleJoin_changes a) s .join⟩
  | acquire a => exact ⟨_, rfl, onAnswerable_changes (handleAcquire_changes a) s .acquire⟩
  | convert a => exact ⟨_, rfl, onAnswerable_changes (handleConvert_changes a) s .convert⟩
  | query a => exact ⟨_, rfl, onAnswerable_changes (handleQuery_changes a) s .query⟩
  | leave a => exact ⟨_, rfl, onAnswerable_changes (handleLeave_changes a) s .leave⟩
  | release a => exact ⟨_, rfl, onClosing_changes (handleRelease_changes a) s .release⟩
  | downgrade a => exact ⟨_, rfl, onClosing_changes (handleDowngrade_changes a) s .downgrade⟩
  | cancel a => exact ⟨_, rfl, onClosing_changes (handleCancel_changes a) s .cancel⟩
  | keepalive a => exact ⟨_, rfl, onClosing_changes (fun _ _ => .refl) s .keepalive⟩
  | waitDeadline a tag => exact ⟨_, rfl, waitDeadlinePasses_changes s a tag⟩
  | recallDeadline slot => exact ⟨_, rfl, recallDeadlinePasses_changes s slot⟩
  | sessionLeaseExpiry a => exact ⟨_, rfl, leaseDeadlinePasses_changes s a⟩
  | sweepStep => exact ⟨_, rfl, sweepOnce_changes s⟩
  | agentLinkSend a => exact ⟨_, rfl, agentLinkSends_changes s a⟩
  | endOfTransmission link =>
    cases link with
    | agent a => exact ⟨_, rfl, modLink_changes s a _⟩
    | mgmt => exact ⟨_, rfl, modMgmt_changes s _⟩
  | mgmtFrameArrival bytes => exact ⟨_, rfl, mgmtFrameArrives_changes s bytes⟩
  | mgmtLinkSend => exact ⟨_, rfl, mgmtLinkSends_changes s⟩
  | reportAck => exact ⟨_, rfl, reportAckTaken_changes s⟩
  | configure => exact ⟨_, rfl, onCommand_changes runConfigure_changes s .configure⟩
  | setParam => exact ⟨_, rfl, onCommand_changes runSetParam_changes s .setParam⟩
  | admitAgent => exact ⟨_, rfl, onCommand_changes (onAgent_changes runAdmit_changes) s .admitAgent⟩
  | evict => exact ⟨_, rfl, onCommand_changes (onAgent_changes runEvict_changes) s .evict⟩
  | pause => exact ⟨_, rfl, onCommand_changes runPause_changes s .pause⟩
  | resume => exact ⟨_, rfl, onCommand_changes runResume_changes s .resume⟩
  | sweepStart => exact ⟨_, rfl, onCommand_changes runSweepStart_changes s .sweepStart⟩
  | sweepAbort => exact ⟨_, rfl, onCommand_changes runSweepAbort_changes s .sweepAbort⟩
  | queryExtent => exact ⟨_, rfl, onCommand_changes runQueryExtent_changes s .queryExtent⟩
  | queryAgent => exact ⟨_, rfl, onCommand_changes (onAgent_changes runQueryAgent_changes) s .queryAgent⟩
  | ackChurn => exact ⟨_, rfl, onCommand_changes (onAgent_changes runAckChurn_changes) s .ackChurn⟩
  | reportResume => exact ⟨_, rfl, onCommand_changes runReportResume_changes s .reportResume⟩
  | readCounters => exact ⟨_, rfl, onCommand_changes runReadCounters_changes s .readCounters⟩
  | resetDirectory => exact ⟨_, rfl, onCommand_changes runResetDirectory_changes s .resetDirectory⟩

/-- A law that a small change keeps and that does not read the queue of commands is kept by every step. -/
theorem step_keeps {P : State → Prop} (hqueue : ∀ s rest, P s → P { s with pending := rest })
    (hchange : ∀ s t, Change s t → P s → P t) {s t : State} (h : step s = .next t) (hs : P s) : P t := by
  unfold step at h
  split at h
  · exact Host.Outcome.next.inj h ▸ hs
  · rename_i c rest _
    obtain ⟨u, hexec, hu⟩ := exec_changes c { s with pending := rest }
    obtain rfl : u = t := Host.Outcome.next.inj (hexec.symm.trans h)
    exact hu.keeps hchange (hqueue s rest hs)

end Sys2Proof.Laws
end

section
/-!
The statements about the machine as a whole: what a step runs, power-on, the tick, and the counts that stay bounded.
-/

namespace Sys2Proof.Proofs

open Sys2Proof.Machine Sys2Proof.Safety Sys2Proof.Laws

/-- Settles O1: every command is a run of small changes, and none of them touches the queue. -/
theorem stepRunsFrontCommand : Obligations.StepRunsFrontCommand := by
  refine ⟨fun c rest s hs => ?_, fun s hs => ?_, fun c s => ?_⟩
  · simp only [step, hs]
  · simp only [step, hs]
  · obtain ⟨t, hexec, hchanges⟩ := exec_changes c s
    exact ⟨t, hexec, hchanges.pending⟩

/-- Settles O2, block by block from `State.reset`. -/
theorem powerOnValues : Obligations.PowerOnValues := by
  refine ⟨⟨rfl, rfl, rfl, rfl, rfl, rfl⟩, fun a => ?_, fun g => ?_, rfl, rfl, rfl⟩
  · exact ⟨PerAgent.get_const .., PerAgent.get_const .., PerAgent.get_const .., PerAgent.get_const ..⟩
  · unfold PerGroup.get
    split <;> rfl

/-- Settles O3: the tick takes place exactly when no deadline that stands is the count. -/
theorem powerOnAndTick : Obligations.PowerOnAndTick := by
  intro s due
  have hdue : s.deadlineDue = true ↔ due := deadlineDue_iff s
  have hticks : ¬due → exec .millisecondTick s = .next s.timeAdvances := fun hnot => by
    simp only [exec, execMillisecondTick, if_neg (mt hdue.mp hnot)]
  refine ⟨rfl, fun hnot hlt => ?_, fun hnot hmax => ?_, fun hyes => ?_⟩
  · simp only [hticks hnot, State.timeAdvances, if_pos hlt]
  · simp only [hticks hnot, State.timeAdvances, if_neg (Nat.not_lt_of_le hmax)]
  · simp only [exec, execMillisecondTick, if_pos (hdue.mpr hyes)]

/-- Settles O6: each law is kept by every small change and so by every step. -/
theorem countsStayBounded : Obligations.CountsStayBounded := fun _ _ hstep =>
  ⟨step_keeps (fun _ _ h => h) (fun _ _ => Change.timeLaw) hstep,
   step_keeps (fun _ _ h => h) (fun _ _ => Change.deadlineLaw) hstep,
   step_keeps (fun _ _ h => h) (fun _ _ => Change.reportQueueLaw) hstep,
   step_keeps (fun _ _ h => h) (fun _ _ => Change.controlLaneLaw) hstep,
   step_keeps (fun _ _ h => h) (fun _ _ => Change.waitListLaw) hstep⟩

end Sys2Proof.Proofs
end

section
/-!
SUPPORT. The Grant Table's own facts: index order and the record that enters it (R13), the free slot (R11), overlap (R4),
and what changes of the records the index law survives.
-/

namespace Sys2Proof.Laws

-- One lemma at a time: checked at once, so many would start more threads than the memory limit of check.sh allows.
set_option Elab.async false

open Sys2Proof.Machine Sys2Proof.Safety

/-! ## Extents (R3, R4) -/

theorem overlaps_iff (x y : Extent) : x.overlaps y = true ↔ x.start < y.stop ∧ y.start < x.stop := by
  simp [Extent.overlaps]

theorem overlaps_comm (x y : Extent) : x.overlaps y = y.overlaps x := by
  simp only [Extent.overlaps, Bool.and_comm]

theorem valid_iff (x : Extent) (volume : Nat) :
    x.valid volume = true ↔ 1 ≤ x.length ∧ x.length ≤ Config.maxExtentLength ∧ x.stop ≤ volume := by
  simp [Extent.valid, and_assoc]

/-- An extent of at least one block overlaps itself. -/
theorem overlaps_self {x : Extent} {volume : Nat} (h : x.valid volume = true) : x.overlaps x = true := by
  obtain ⟨hpos, -, -⟩ := (valid_iff x volume).mp h
  rw [overlaps_iff]
  unfold Extent.stop
  omega

/-! ## Index order (R13) -/

theorem before_iff (r q : GrantRecord) : r.before q = true ↔
    r.extent.start < q.extent.start ∨ (r.extent.start = q.extent.start ∧ r.slot < q.slot) := by
  simp [GrantRecord.before]

theorem before_trans {r q p : GrantRecord} (h1 : r.before q = true) (h2 : q.before p = true) : r.before p = true := by
  rw [before_iff] at *
  omega

/-- Of two records in different slots one comes first. -/
theorem before_of_not {r q : GrantRecord} (h : ¬r.before q = true) (hslot : r.slot ≠ q.slot) : q.before r = true := by
  rw [before_iff] at *
  omega

/-- A record that enters the index joins those that are there. -/
theorem insertRecord_perm (r : GrantRecord) : ∀ l : List GrantRecord, (insertRecord r l).Perm (r :: l)
  | [] => .refl _
  | q :: l => by
    unfold insertRecord
    split
    · exact .refl _
    · exact ((insertRecord_perm r l).cons q).trans (.swap r q l)

/-- A record in a slot of its own enters the index in its order. -/
theorem insertRecord_ordered {r : GrantRecord} : ∀ {l : List GrantRecord},
    l.Pairwise (fun r q => r.before q = true) → (∀ q ∈ l, r.slot ≠ q.slot) →
    (insertRecord r l).Pairwise fun r q => r.before q = true
  | [], _, _ => List.pairwise_singleton _ _
  | q :: l, hord, hslot => by
    obtain ⟨hq, hl⟩ := List.pairwise_cons.mp hord
    unfold insertRecord
    split
    · rename_i hfirst
      refine List.pairwise_cons.mpr ⟨fun p hp => ?_, hord⟩
      rcases List.mem_cons.mp hp with rfl | htail
      · exact hfirst
      · exact before_trans hfirst (hq p htail)
    · rename_i hlater
      refine List.pairwise_cons.mpr ⟨fun p hp => ?_, insertRecord_ordered hl fun p hp =>
        hslot p (List.mem_cons_of_mem q hp)⟩
      rcases List.mem_cons.mp ((insertRecord_perm r l).mem_iff.mp hp) with rfl | htail
      · exact before_of_not hlater (hslot q List.mem_cons_self)
      · exact hq p htail

/-! ## Slots (R11) -/

theorem leastUnused_some {used : List Nat} : ∀ {fuel n slot : Nat}, leastUnused used fuel n = some slot →
    n ≤ slot ∧ slot < n + fuel ∧ slot ∉ used ∧ ∀ m, n ≤ m → m < slot → m ∈ used
  | 0, _, _, h => by simp [leastUnused] at h
  | fuel + 1, n, slot, h => by
    unfold leastUnused at h
    split at h
    · rename_i hused
      obtain ⟨hle, hlt, hfree, hbelow⟩ := leastUnused_some h
      refine ⟨by omega, by omega, hfree, fun m hn hm => ?_⟩
      rcases Nat.eq_or_lt_of_le hn with rfl | hlater
      · simpa using hused
      · exact hbelow m hlater hm
    · rename_i hfree
      obtain rfl : n = slot := Option.some.inj h
      exact ⟨le_refl _, by omega, by simpa using hfree, fun m _ _ => by omega⟩

/-- The slot that is found free is the lowest-numbered free slot. -/
theorem lowestFree_of_freeSlot {s : State} {n : Nat} (h : s.freeSlot = some n) : LowestFree s n := by
  obtain ⟨-, hlt, hfree, hbelow⟩ := leastUnused_some h
  refine ⟨by simpa using hlt, fun r hr he => hfree (List.mem_map.mpr ⟨r, hr, he⟩), fun m hm => ?_⟩
  exact List.mem_map.mp (hbelow m (Nat.zero_le _) hm)

/-! ## The index law -/

/-- A token that can be issued, in a slot of its own, keeps the index (R11, R13, R15). -/
theorem indexLaw_insert {s : State} {r : GrantRecord} (h : IndexLaw s) (hslot : ∀ q ∈ s.grantTable.records, r.slot ≠ q.slot)
    (hlt : r.slot < Config.slotCount) (htoken : r.token = s.nextToken) (hroom : s.canIssueToken = true) :
    IndexLaw { s with grantTable := { records := insertRecord r s.grantTable.records, counter := s.nextToken } } := by
  obtain ⟨hord, hslots, hslotMax, htokens, htokenMax, hmax⟩ := h
  have hcounter : s.grantTable.counter < Config.tokenMax := by simpa [State.canIssueToken] using hroom
  have hperm := insertRecord_perm r s.grantTable.records
  have hnext : s.nextToken = s.grantTable.counter + 1 := rfl
  refine ⟨insertRecord_ordered hord hslot, ?_, fun q hq => ?_, ?_, fun q hq => ?_, by dsimp only; omega⟩
  · exact (hperm.pairwise_iff fun h => h.symm).mpr (List.pairwise_cons.mpr ⟨hslot, hslots⟩)
  · rcases List.mem_cons.mp (hperm.mem_iff.mp hq) with rfl | hold
    · exact hlt
    · exact hslotMax q hold
  · refine (hperm.pairwise_iff fun h => h.symm).mpr (List.pairwise_cons.mpr ⟨fun q hq => ?_, htokens⟩)
    have := htokenMax q hq
    omega
  · rcases List.mem_cons.mp (hperm.mem_iff.mp hq) with rfl | hold
    · exact htoken.le
    · exact (htokenMax q hold).trans (by dsimp only; omega)

/-- Records leave. -/
theorem indexLaw_sublist {s : State} {l : List GrantRecord} (h : IndexLaw s) (hl : l.Sublist s.grantTable.records) :
    IndexLaw (s.setRecords l) := by
  obtain ⟨hord, hslots, hslotMax, htokens, htokenMax, hmax⟩ := h
  exact ⟨hord.sublist hl, hslots.sublist hl, fun r hr => hslotMax r (hl.subset hr), htokens.sublist hl,
    fun r hr => htokenMax r (hl.subset hr), hmax⟩

/-- Records change, but for slot, token and extent. -/
theorem indexLaw_map {s : State} {f : GrantRecord → GrantRecord} (h : IndexLaw s)
    (hf : ∀ r, (f r).slot = r.slot ∧ (f r).token = r.token ∧ (f r).extent = r.extent) :
    IndexLaw (s.setRecords (s.grantTable.records.map f)) := by
  obtain ⟨hord, hslots, hslotMax, htokens, htokenMax, hmax⟩ := h
  have hslot : ∀ r, (f r).slot = r.slot := fun r => (hf r).1
  have htoken : ∀ r, (f r).token = r.token := fun r => (hf r).2.1
  have hbefore : ∀ r q, (f r).before (f q) = r.before q := fun r q => by
    simp only [GrantRecord.before, hslot, (hf r).2.2, (hf q).2.2]
  refine ⟨List.pairwise_map.mpr ?_, List.pairwise_map.mpr ?_, List.forall_mem_map.mpr ?_, List.pairwise_map.mpr ?_,
    List.forall_mem_map.mpr ?_, hmax⟩
  · simpa only [hbefore] using hord
  · simpa only [hslot] using hslots
  · simpa only [hslot] using hslotMax
  · simpa only [htoken] using htokens
  · simpa only [htoken, State.setRecords_grantTable] using htokenMax

/-! ## Upgrade (R19) -/

/-- What the upgrade of the record in a slot under a token makes of a record. -/
def upgradedIn (slot token : Nat) (r : GrantRecord) : GrantRecord :=
  if r.slot = slot then { r with mode := .exclusive, token := token } else r

section
variable (slot token : Nat) (r : GrantRecord)

@[simp] theorem upgradedIn_slot : (upgradedIn slot token r).slot = r.slot := by unfold upgradedIn; split <;> rfl
@[simp] theorem upgradedIn_holder : (upgradedIn slot token r).holder = r.holder := by unfold upgradedIn; split <;> rfl
@[simp] theorem upgradedIn_epoch : (upgradedIn slot token r).epoch = r.epoch := by unfold upgradedIn; split <;> rfl
@[simp] theorem upgradedIn_extent : (upgradedIn slot token r).extent = r.extent := by unfold upgradedIn; split <;> rfl
@[simp] theorem upgradedIn_sweepPending : (upgradedIn slot token r).sweepPending = r.sweepPending := by
  unfold upgradedIn; split <;> rfl
theorem upgradedIn_token : (upgradedIn slot token r).token = if r.slot = slot then token else r.token := by
  unfold upgradedIn; split <;> rfl

variable {slot r}

theorem upgradedIn_other (h : r.slot ≠ slot) : upgradedIn slot token r = r := if_neg h

end

theorem upgradeRecord_grantTable (s : State) (slot : Nat) : (s.upgradeRecord slot).grantTable =
    { records := s.grantTable.records.map (upgradedIn slot s.nextToken), counter := s.nextToken } := rfl

/-- A record upgraded under a token that can be issued (R15). -/
theorem indexLaw_upgrade {s : State} {slot : Nat} (h : IndexLaw s) (hroom : s.canIssueToken = true) :
    IndexLaw (s.upgradeRecord slot) := by
  obtain ⟨hord, hslots, hslotMax, htokens, htokenMax, hmax⟩ := h
  have hcounter : s.grantTable.counter < Config.tokenMax := by simpa [State.canIssueToken] using hroom
  have hnext : s.nextToken = s.grantTable.counter + 1 := rfl
  unfold IndexLaw
  rw [upgradeRecord_grantTable]
  refine ⟨List.pairwise_map.mpr ?_, List.pairwise_map.mpr ?_, List.forall_mem_map.mpr ?_, List.pairwise_map.mpr ?_,
    List.forall_mem_map.mpr fun r hr => ?_, by dsimp only; omega⟩
  · simpa only [GrantRecord.before, upgradedIn_slot, upgradedIn_extent] using hord
  · simpa only [upgradedIn_slot] using hslots
  · simpa only [upgradedIn_slot] using hslotMax
  · refine (hslots.and htokens).imp_of_mem fun {r q} hr hq h => ?_
    obtain ⟨hne, hneToken⟩ := h
    have hrMax := htokenMax r hr
    have hqMax := htokenMax q hq
    rw [upgradedIn_token, upgradedIn_token]
    split <;> split <;> omega
  · have := htokenMax r hr
    rw [upgradedIn_token]
    dsimp only
    split <;> omega

end Sys2Proof.Laws
end

section
/-!
SUPPORT. Leases and claims that are sound together: what each change of the Grant Table or the Wait List needs in order to
keep them so (R3, R6, R10, R33, R47).
-/

namespace Sys2Proof.Laws

-- One lemma at a time: checked at once, so many would start more threads than the memory limit of check.sh allows.
set_option Elab.async false

open Sys2Proof.Machine Sys2Proof.Safety

/-! ## Claims beside records -/

/-- Two claims of one agent do not overlap (R6). -/
def Apart (c d : Claim) : Prop := c.agent = d.agent → c.extent.overlaps d.extent = false

theorem Apart.symm {c d : Claim} (h : Apart c d) : Apart d c := fun he => overlaps_comm d.extent c.extent ▸ h he.symm

/-- A claim that may stand beside the records: valid, clear of its agent's own, and with its subject in place. -/
structure ClaimSound (s : State) (c : Claim) : Prop where
  clear : ∀ r ∈ s.grantTable.records, c.agent = r.holder → c.extent.overlaps r.extent = true → c.kind = .convert r.slot
  subject : ∀ slot, c.kind = .convert slot → c.mode = .exclusive ∧ ∃ r ∈ s.grantTable.records, r.slot = slot ∧
    r.holder = c.agent ∧ r.extent = c.extent ∧ r.mode = .shared ∧ r.recallRecord = none
  valid : c.extent.valid s.params.volume = true

/-- A claim that may join the waiting ones too. -/
structure ClaimFits (s : State) (c : Claim) : Prop extends ClaimSound s c where
  apart : ∀ d ∈ s.waitList.map WaitEntry.claim, Apart d c

/-- The lease law and the extent law, in the words of claims. -/
structure LeasesSound (s : State) : Prop where
  index : IndexLaw s
  noConflict : NoConflict s
  extents : ∀ r ∈ s.grantTable.records, r.extent.valid s.params.volume = true
  apart : (s.waitList.map WaitEntry.claim).Pairwise Apart
  claims : ∀ c ∈ s.waitList.map WaitEntry.claim, ClaimSound s c

theorem subjectWaits_iff (s : State) (e : WaitEntry) : SubjectWaits s e ↔ ∀ slot, e.kind = .convert slot →
    e.mode = .exclusive ∧ ∃ r ∈ s.grantTable.records, r.slot = slot ∧ r.holder = e.agent ∧ r.extent = e.extent ∧
      r.mode = .shared ∧ r.recallRecord = none := by
  unfold SubjectWaits
  cases e.kind with
  | acquire => simp
  | convert slot => simp

theorem leasesSound_iff (s : State) : LeasesSound s ↔ LeaseLaw s ∧ ExtentLaw s := by
  constructor
  · rintro ⟨hindex, hconflict, hextents, hapart, hclaims⟩
    have hentry : ∀ e ∈ s.waitList, ClaimSound s e.claim := fun e he => hclaims _ (List.mem_map_of_mem he)
    exact ⟨⟨hindex, hconflict, List.pairwise_map.mp hapart, fun e he r hr => (hentry e he).clear r hr,
      fun e he => (subjectWaits_iff s e).mpr (hentry e he).subject⟩, hextents, fun e he => (hentry e he).valid⟩
  · rintro ⟨⟨hindex, hconflict, hapart, hclear, hsubject⟩, hextents, hvalid⟩
    refine ⟨hindex, hconflict, hextents, List.pairwise_map.mpr hapart, List.forall_mem_map.mpr fun e he => ?_⟩
    exact ⟨hclear e he, (subjectWaits_iff s e).mp (hsubject e he), hvalid e he⟩

/-! ## Records that conflict (R5, R10) -/

theorem Compatible.symm {r q : GrantRecord} (h : Compatible r q) : Compatible q r := fun hover => by
  obtain ⟨hr, hq, hne⟩ := h (overlaps_comm q.extent r.extent ▸ hover)
  exact ⟨hq, hr, hne.symm⟩

/-- Two different records of a sound table are compatible. -/
theorem noConflict_compatible {s : State} (h : NoConflict s) {r q : GrantRecord} (hr : r ∈ s.grantTable.records)
    (hq : q ∈ s.grantTable.records) (hne : r ≠ q) : Compatible r q :=
  have : Std.Symm Compatible := ⟨fun _ _ => Compatible.symm⟩
  List.Pairwise.forall h hr hq hne

theorem hitsRecord_iff (c : Claim) (r : GrantRecord) : c.hitsRecord r = true ↔
    c.kind ≠ .convert r.slot ∧ c.agent ≠ r.holder ∧ c.extent.overlaps r.extent = true ∧
      (c.mode = .exclusive ∨ r.mode = .exclusive) := by
  simp [Claim.hitsRecord, Mode.clash, and_assoc]

/-- No record conflicts with the claim. -/
theorem conflicting_nil {s : State} {c : Claim} (h : s.conflicting c = []) {r : GrantRecord}
    (hr : r ∈ s.grantTable.records) : c.hitsRecord r = false := by
  simpa using List.filter_eq_nil_iff.mp h r hr

/-- A record that does not conflict with a claim it overlaps, of another agent and not its subject, is SHARED, and so
asks the claim. -/
theorem shared_of_not_hits {c : Claim} {r : GrantRecord} (h : c.hitsRecord r = false) (hkind : c.kind ≠ .convert r.slot)
    (hagent : c.agent ≠ r.holder) (hover : c.extent.overlaps r.extent = true) : c.mode = .shared ∧ r.mode = .shared := by
  have hmodes : ¬(c.mode = .exclusive ∨ r.mode = .exclusive) := fun hclash =>
    absurd ((hitsRecord_iff c r).mpr ⟨hkind, hagent, hover, hclash⟩) (by simp [h])
  revert hmodes
  cases c.mode <;> cases r.mode <;> simp

/-! ## Records and entries that leave or change -/

section
variable {s : State}

/-- A claim stays sound where the records keep their places and its subject stays. -/
theorem ClaimSound.of_records {t : State} {c : Claim} (h : ClaimSound s c) (hvolume : t.params.volume = s.params.volume)
    (hplaces : ∀ q ∈ t.grantTable.records, ∃ r ∈ s.grantTable.records,
      r.slot = q.slot ∧ r.holder = q.holder ∧ r.extent = q.extent)
    (hsubject : ∀ r ∈ s.grantTable.records, c.kind = .convert r.slot → c.agent = r.holder → r.mode = .shared →
      r.recallRecord = none → ∃ q ∈ t.grantTable.records,
        q.slot = r.slot ∧ q.holder = r.holder ∧ q.extent = r.extent ∧ q.mode = .shared ∧ q.recallRecord = none) :
    ClaimSound t c := by
  refine ⟨fun q hq ha hover => ?_, fun slot hkind => ?_, hvolume ▸ h.valid⟩
  · obtain ⟨r, hr, hslot, hholder, hextent⟩ := hplaces q hq
    exact hslot ▸ h.clear r hr (ha.trans hholder.symm) (hextent ▸ hover)
  · obtain ⟨hmode, r, hr, rfl, hholder, hextent, hshared, hheld⟩ := h.subject slot hkind
    obtain ⟨q, hq, hslot', hholder', hextent', hshared', hheld'⟩ := hsubject r hr hkind hholder.symm hshared hheld
    exact ⟨hmode, q, hq, hslot', hholder'.trans hholder, hextent'.trans hextent, hshared', hheld'⟩

/-- Entries leave the Wait List, or change nothing that a claim tells. -/
theorem LeasesSound.entries {l : List WaitEntry} (h : LeasesSound s)
    (hl : (l.map WaitEntry.claim).Sublist (s.waitList.map WaitEntry.claim)) : LeasesSound (s.setWaitList l) :=
  ⟨h.index, h.noConflict, h.extents, h.apart.sublist hl, fun c hc =>
    have hsound := h.claims c (hl.subset hc)
    ⟨hsound.clear, hsound.subject, hsound.valid⟩⟩

/-- Records leave, none of them the subject of a waiting CONVERT. -/
theorem LeasesSound.recordsLeave {l : List GrantRecord} (h : LeasesSound s) (hl : l.Sublist s.grantTable.records)
    (hsubject : ∀ c ∈ s.waitList.map WaitEntry.claim, ∀ r ∈ s.grantTable.records, r ∉ l → c.agent = r.holder →
      c.kind ≠ .convert r.slot) : LeasesSound (s.setRecords l) where
  index := indexLaw_sublist h.index hl
  noConflict := h.noConflict.sublist hl
  extents r hr := h.extents r (hl.subset hr)
  apart := h.apart
  claims c hc := (h.claims c hc).of_records rfl (fun q hq => ⟨q, hl.subset hq, rfl, rfl, rfl⟩)
    fun r hr hkind ha hshared hheld =>
      ⟨r, by_contra fun hgone => hsubject c hc r hr hgone ha hkind, rfl, rfl, rfl, hshared, hheld⟩

/-- Records change: none moves or becomes EXCLUSIVE, and no subject of a waiting CONVERT is recalled. -/
theorem LeasesSound.recordsChange {f : GrantRecord → GrantRecord} (h : LeasesSound s)
    (hsame : ∀ r, (f r).slot = r.slot ∧ (f r).token = r.token ∧ (f r).holder = r.holder ∧ (f r).extent = r.extent)
    (hmode : ∀ r, r.mode = .shared → (f r).mode = .shared)
    (hsubject : ∀ c ∈ s.waitList.map WaitEntry.claim, ∀ r ∈ s.grantTable.records, c.kind = .convert r.slot →
      c.agent = r.holder → r.recallRecord = none → (f r).recallRecord = none) :
    LeasesSound (s.setRecords (s.grantTable.records.map f)) where
  index := indexLaw_map h.index fun r => by
    obtain ⟨hslot, htoken, -, hextent⟩ := hsame r
    exact ⟨hslot, htoken, hextent⟩
  noConflict := List.pairwise_map.mpr <| h.noConflict.imp fun {r q} hrq hover => by
    obtain ⟨-, -, hholder, hextent⟩ := hsame r
    obtain ⟨-, -, hholder', hextent'⟩ := hsame q
    rw [hextent, hextent'] at hover
    obtain ⟨hr, hq, hne⟩ := hrq hover
    exact ⟨hmode r hr, hmode q hq, by rwa [hholder, hholder']⟩
  extents := List.forall_mem_map.mpr fun r hr => by
    obtain ⟨-, -, -, hextent⟩ := hsame r
    exact hextent ▸ h.extents r hr
  apart := h.apart
  claims c hc := by
    refine (h.claims c hc).of_records rfl (List.forall_mem_map.mpr fun r hr => ?_)
      fun r hr hkind ha hshared hheld => ⟨f r, List.mem_map_of_mem hr, ?_⟩
    · obtain ⟨hslot, -, hholder, hextent⟩ := hsame r
      exact ⟨r, hr, hslot.symm, hholder.symm, hextent.symm⟩
    · obtain ⟨hslot, -, hholder, hextent⟩ := hsame r
      exact ⟨hslot, hholder, hextent, hmode r hshared, hsubject c hc r hr hkind ha hheld⟩

/-- A claim that fits joins the tail of the Wait List. -/
theorem LeasesSound.entryJoins {e : WaitEntry} (h : LeasesSound s) (hfits : ClaimFits s e.claim) :
    LeasesSound (s.setWaitList (s.waitList ++ [e])) where
  index := h.index
  noConflict := h.noConflict
  extents := h.extents
  apart := by
    rw [State.setWaitList_waitList, List.map_append]
    refine List.pairwise_append.mpr ⟨h.apart, List.pairwise_singleton _ _, fun c hc d hd => ?_⟩
    exact List.mem_singleton.mp hd ▸ hfits.apart c hc
  claims c hc := by
    rw [State.setWaitList_waitList, List.map_append] at hc
    have hsound : ClaimSound s c := by
      rcases List.mem_append.mp hc with hold | hnew
      · exact h.claims c hold
      · exact List.mem_singleton.mp hnew ▸ hfits.toClaimSound
    exact ⟨hsound.clear, hsound.subject, hsound.valid⟩

/-- An entry's claim fits once the entry has left. -/
theorem LeasesSound.claimFits {before after : List WaitEntry} {e : WaitEntry} (h : LeasesSound s)
    (hsplit : s.waitList = before ++ e :: after) : ClaimFits (s.setWaitList (before ++ after)) e.claim := by
  have hsound := h.claims e.claim (List.mem_map_of_mem (by simp [hsplit]))
  refine ⟨⟨hsound.clear, hsound.subject, hsound.valid⟩, ?_⟩
  have hapart := h.apart
  rw [hsplit, List.map_append, List.map_cons, List.pairwise_append, List.pairwise_cons] at hapart
  obtain ⟨-, ⟨hafter, -⟩, hbefore⟩ := hapart
  rw [State.setWaitList_waitList, List.map_append]
  intro d hd
  rcases List.mem_append.mp hd with hleft | hright
  · exact hbefore d hleft _ List.mem_cons_self
  · exact (hafter d hright).symm

/-! ## A claim is granted (R18, R19) -/

/-- The Grant Table's share of a grant. -/
def tableGrant (s : State) (c : Claim) (epoch : Nat) : State :=
  match c.kind with
  | .acquire => s.createRecord c epoch
  | .convert slot => s.upgradeRecord slot

theorem tableGrant_acquire {c : Claim} (hkind : c.kind = .acquire) {slot : Nat} (hslot : s.freeSlot = some slot)
    (epoch : Nat) : tableGrant s c epoch = { s with grantTable :=
      { records := insertRecord (c.newRecord slot s.nextToken epoch) s.grantTable.records
        counter := s.nextToken } } := by
  unfold tableGrant State.createRecord
  simp only [hkind, hslot]

theorem tableGrant_convert {c : Claim} {slot : Nat} (hkind : c.kind = .convert slot) (epoch : Nat) :
    tableGrant s c epoch = s.upgradeRecord slot := by
  unfold tableGrant
  simp only [hkind]

theorem hasRoom_acquire {c : Claim} (hkind : c.kind = .acquire) (h : s.hasRoom c = true) :
    (∃ slot, s.freeSlot = some slot) ∧ s.canIssueToken = true := by
  simpa [State.hasRoom, hkind, Option.isSome_iff_exists] using h

theorem hasRoom_convert {c : Claim} {slot : Nat} (hkind : c.kind = .convert slot) (h : s.hasRoom c = true) :
    s.canIssueToken = true := by
  simpa [State.hasRoom, hkind] using h

/-- The record of a granted ACQUIRE conflicts with none (R10, R36). -/
theorem newRecord_compatible {c : Claim} {r : GrantRecord} (slot token epoch : Nat) (hkind : c.kind = .acquire)
    (hfits : ClaimFits s c) (hfree : s.conflicting c = []) (hr : r ∈ s.grantTable.records) :
    Compatible (c.newRecord slot token epoch) r := by
  intro hover
  have hne : c.kind ≠ .convert r.slot := by simp [hkind]
  have hagent : c.agent ≠ r.holder := fun he => hne (hfits.clear r hr he hover)
  obtain ⟨hc, hr⟩ := shared_of_not_hits (conflicting_nil hfree hr) hne hagent hover
  exact ⟨hc, hr, hagent⟩

/-- A grantable ACQUIRE that fits keeps leases and claims sound. -/
theorem LeasesSound.create {c : Claim} {slot : Nat} (h : LeasesSound s) (epoch : Nat) (hkind : c.kind = .acquire)
    (hfits : ClaimFits s c) (hfree : s.conflicting c = []) (hslot : s.freeSlot = some slot)
    (hroom : s.canIssueToken = true) : LeasesSound { s with grantTable :=
      { records := insertRecord (c.newRecord slot s.nextToken epoch) s.grantTable.records
        counter := s.nextToken } } := by
  obtain ⟨hlt, hunused, -⟩ := lowestFree_of_freeSlot hslot
  have hperm := insertRecord_perm (c.newRecord slot s.nextToken epoch) s.grantTable.records
  have hmem : ∀ {q}, q ∈ insertRecord (c.newRecord slot s.nextToken epoch) s.grantTable.records ↔
      q = c.newRecord slot s.nextToken epoch ∨ q ∈ s.grantTable.records := hperm.mem_iff.trans List.mem_cons
  refine ⟨indexLaw_insert h.index (fun q hq => (hunused q hq).symm) hlt rfl hroom, ?_, fun q hq => ?_, h.apart,
    fun d hd => ⟨fun q hq ha hover => ?_, fun n hconvert => ?_, (h.claims d hd).valid⟩⟩
  · exact (hperm.pairwise_iff Compatible.symm).mpr (List.pairwise_cons.mpr
      ⟨fun r hr => newRecord_compatible slot _ epoch hkind hfits hfree hr, h.noConflict⟩)
  · rcases hmem.mp hq with rfl | hold
    · exact hfits.valid
    · exact h.extents q hold
  · rcases hmem.mp hq with rfl | hold
    · exact absurd hover (by simp [Claim.newRecord, hfits.apart d hd ha])
    · exact (h.claims d hd).clear q hold ha hover
  · obtain ⟨hmode, r, hr, hrest⟩ := (h.claims d hd).subject n hconvert
    exact ⟨hmode, r, hmem.mpr (.inr hr), hrest⟩

/-- The subject of a grantable CONVERT overlaps no other record. -/
theorem subject_apart {c : Claim} {r q : GrantRecord} (h : LeasesSound s) (hfree : s.conflicting c = [])
    (hr : r ∈ s.grantTable.records) (hkind : c.kind = .convert r.slot) (hmode : c.mode = .exclusive)
    (hholder : r.holder = c.agent) (hextent : r.extent = c.extent) (hq : q ∈ s.grantTable.records)
    (hslot : q.slot ≠ r.slot) : r.extent.overlaps q.extent = false := by
  by_contra hover
  rw [Bool.not_eq_false] at hover
  obtain ⟨-, -, hne⟩ := noConflict_compatible h.noConflict hr hq (fun he => hslot (he ▸ rfl)) hover
  obtain ⟨hshared, -⟩ := shared_of_not_hits (conflicting_nil hfree hq) (by simpa [hkind] using hslot.symm)
    (hholder ▸ hne) (hextent ▸ hover)
  exact absurd (hmode.symm.trans hshared) (by simp)

/-- A grantable CONVERT that fits keeps leases and claims sound. -/
theorem LeasesSound.upgrade {c : Claim} {slot : Nat} (h : LeasesSound s) (hkind : c.kind = .convert slot)
    (hfits : ClaimFits s c) (hfree : s.conflicting c = []) (hroom : s.canIssueToken = true) :
    LeasesSound (s.upgradeRecord slot) := by
  obtain ⟨hmode, r, hr, rfl, hholder, hextent, -, -⟩ := hfits.subject slot hkind
  have hslots := h.index.2.1
  have hself : ∀ {q}, q ∈ s.grantTable.records → q.slot = r.slot → q = r := fun hq he => slot_unique hslots hq hr he
  have hapart : ∀ {q}, q ∈ s.grantTable.records → q.slot ≠ r.slot → r.extent.overlaps q.extent = false := fun hq he =>
    subject_apart h hfree hr hkind hmode hholder hextent hq he
  refine ⟨indexLaw_upgrade h.index hroom, ?_, List.forall_mem_map.mpr fun q hq => ?_, h.apart, fun d hd => ?_⟩
  · unfold NoConflict
    rw [upgradeRecord_grantTable]
    refine List.pairwise_map.mpr ((hslots.and h.noConflict).imp_of_mem fun {p q} hp hq hpq hover => ?_)
    obtain ⟨hne, hcompatible⟩ := hpq
    rw [upgradedIn_extent, upgradedIn_extent] at hover
    by_cases hps : p.slot = r.slot
    · obtain rfl := hself hp hps
      simp [hapart hq hne.symm] at hover
    · by_cases hqs : q.slot = r.slot
      · obtain rfl := hself hq hqs
        rw [overlaps_comm, hapart hp hps] at hover
        cases hover
      · rw [upgradedIn_other _ hps, upgradedIn_other _ hqs]
        exact hcompatible hover
  · dsimp only
    split
    · exact h.extents q hq
    · exact h.extents q hq
  · refine (h.claims d hd).of_records rfl (List.forall_mem_map.mpr fun q hq => ⟨q, hq, ?_⟩)
      fun q hq hconvert ha hshared hheld => ?_
    · change q.slot = (upgradedIn r.slot s.nextToken q).slot ∧ q.holder = (upgradedIn r.slot s.nextToken q).holder ∧
        q.extent = (upgradedIn r.slot s.nextToken q).extent
      simp
    · have hother : q.slot ≠ r.slot := fun he => by
        obtain rfl := hself hq he
        have hdapart := hfits.apart d hd (ha.trans hholder)
        obtain ⟨-, p, hp, hps, -, hpe, -⟩ := (h.claims d hd).subject _ hconvert
        obtain rfl := hself hp hps
        rw [← hpe, ← hextent, overlaps_self (h.extents p hp)] at hdapart
        cases hdapart
      refine ⟨q, ?_, rfl, rfl, rfl, hshared, hheld⟩
      rw [upgradeRecord_grantTable]
      exact List.mem_map.mpr ⟨q, hq, upgradedIn_other _ hother⟩

/-- A grantable claim that fits keeps leases and claims sound. -/
theorem LeasesSound.granted {c : Claim} (h : LeasesSound s) (epoch : Nat) (hfits : ClaimFits s c)
    (hfree : s.conflicting c = []) (hroom : s.hasRoom c = true) : LeasesSound (tableGrant s c epoch) := by
  cases hkind : c.kind with
  | acquire =>
    obtain ⟨⟨slot, hslot⟩, htoken⟩ := hasRoom_acquire hkind hroom
    rw [tableGrant_acquire hkind hslot]
    exact h.create epoch hkind hfits hfree hslot htoken
  | convert slot =>
    rw [tableGrant_convert hkind]
    exact h.upgrade hkind hfits hfree (hasRoom_convert hkind hroom)

end

end Sys2Proof.Laws
end

section
/-!
SUPPORT. What a command can do to the tables, as a run of moves. Each move carries what the index law, the lease law, the
session law and the epoch law need in order to survive it, and every command but POWER_ON and CONFIGURE is such a run.
-/

namespace Sys2Proof.Laws

-- One lemma at a time: checked at once, so many would start more threads than the memory limit of check.sh allows.
set_option Elab.async false

open Sys2Proof.Machine Sys2Proof.Safety

/-! ## Sessions (R77) -/

/-- The session has neither started nor ended from `x` to `y`, and a flag it needs is not cleared. -/
structure SameStanding (x y : Session) : Prop where
  epoch : y.epoch = x.epoch := by rfl
  active : isActive y.state = isActive x.state := by rfl
  offline : x.state = .offline → y.state = .offline := by exact id
  flag : isActive x.state = true → x.admitFlag = true → y.admitFlag = true := by exact fun _ h => h

theorem SameStanding.refl (x : Session) : SameStanding x x := {}

theorem SameStanding.trans {x y z : Session} (h : SameStanding x y) (k : SameStanding y z) : SameStanding x z :=
  ⟨k.epoch.trans h.epoch, k.active.trans h.active, fun hx => k.offline (h.offline hx),
    fun hx hf => k.flag (h.active.trans hx) (h.flag hx hf)⟩

theorem isActive_iff (x : SessionState) : isActive x = true ↔ ∃ d, x = .active d := by
  cases x <;> simp [isActive]

theorem activeUnder_iff (s : State) (a : AgentId) (epoch : Nat) :
    ActiveUnder s a epoch ↔ isActive (s.session a).state = true ∧ (s.session a).epoch = epoch := by
  rw [ActiveUnder, isActive_iff]

theorem activeUnder_sameStanding {s t : State} {a : AgentId} {epoch : Nat}
    (h : SameStanding (s.session a) (t.session a)) (hs : ActiveUnder s a epoch) : ActiveUnder t a epoch := by
  rw [activeUnder_iff] at *
  obtain ⟨hactive, hepoch⟩ := hs
  exact ⟨h.active.trans hactive, h.epoch.trans hepoch⟩

/-- The epoch law, by the boolean that says a session is ACTIVE. -/
theorem epochLaw_iff (s : State) : EpochLaw s ↔ ∀ a, (s.session a).epoch ≤ Config.epochMax ∧
    (isActive (s.session a).state = true → 1 ≤ (s.session a).epoch ∧ (s.session a).admitFlag = true) := by
  simp only [EpochLaw, isActive_iff, forall_exists_index]

/-! ## Changes that no law of the tables reads -/

/-- The two states agree in tables, volume and standing of every session; no directory becomes UNCONFIGURED and no sweep
starts. -/
structure Quiet (s t : State) : Prop where
  grantTable : t.grantTable = s.grantTable := by rfl
  waitList : t.waitList = s.waitList := by rfl
  sendLists : t.sendLists = s.sendLists := by rfl
  volume : t.params.volume = s.params.volume := by rfl
  configured : t.management.state = .unconfigured → s.management.state = .unconfigured := by exact fun h => h
  sweep : s.sweep = none → t.sweep = none := by exact fun h => h
  sessions : ∀ a, SameStanding (s.session a) (t.session a) := by exact fun _ => SameStanding.refl _

theorem Quiet.refl (s : State) : Quiet s s := {}

theorem Quiet.trans {s t u : State} (h : Quiet s t) (k : Quiet t u) : Quiet s u :=
  ⟨k.grantTable.trans h.grantTable, k.waitList.trans h.waitList, k.sendLists.trans h.sendLists,
    k.volume.trans h.volume, fun hu => h.configured (k.configured hu), fun hs => k.sweep (h.sweep hs),
    fun a => (h.sessions a).trans (k.sessions a)⟩

/-! ## The moves -/

/-- What the laws of the tables read of a wait entry: its claim and its epoch. -/
def entryTerms (e : WaitEntry) : Claim × Nat := (e.claim, e.epoch)

/-- No record, entry or waiting RECALL is agent `a`'s. -/
structure NothingOf (s : State) (a : AgentId) : Prop where
  records : ∀ r ∈ s.grantTable.records, r.holder ≠ a
  entries : ∀ e ∈ s.waitList, e.agent ≠ a
  messages : s.sendList a = []

/-- No CONVERT of the record is among the entries. -/
def NoneConverts (l : List WaitEntry) (r : GrantRecord) : Prop :=
  ∀ e ∈ l, e.agent = r.holder → e.kind ≠ .convert r.slot

/-- Record `q` is record `r` with nothing changed but what eases others: it may become SHARED, lose its recall or leave
the pending set or join it. -/
structure Eased (r q : GrantRecord) : Prop where
  slot : q.slot = r.slot := by rfl
  token : q.token = r.token := by rfl
  holder : q.holder = r.holder := by rfl
  epoch : q.epoch = r.epoch := by rfl
  extent : q.extent = r.extent := by rfl
  mode : r.mode = .shared → q.mode = .shared := by exact fun h => h
  recallRecord : r.recallRecord = none → q.recallRecord = none := by exact fun h => h

/-- One move. -/
inductive Move (s : State) : State → Prop
  | quiet {t : State} (h : Quiet s t) : Move s t
  | sweepStarts (w : Sweep) : Move s { s with sweep := some w }
  | volume {m : Management} (hstate : m.state = s.management.state) (huse : s.usesBeyond m.params.volume = false) :
      Move s { s with management := m }
  | entries {l : List WaitEntry} (h : (l.map entryTerms).Sublist (s.waitList.map entryTerms)) : Move s (s.setWaitList l)
  | entryJoins {e : WaitEntry} (hfits : LeasesSound s → ClaimFits s e.claim)
      (hactive : SessionLaw s → ActiveUnder s e.agent e.epoch) : Move s (s.setWaitList (s.waitList ++ [e]))
  | granted {l : List WaitEntry} {c : Claim} {epoch : Nat} (hl : l.Sublist s.waitList)
      (hfits : LeasesSound s → ClaimFits (s.setWaitList l) c) (hactive : SessionLaw s → ActiveUnder s c.agent epoch)
      (hfree : s.conflicting c = []) (hroom : s.hasRoom c = true) : Move s (tableGrant (s.setWaitList l) c epoch)
  | recalled {l : List WaitEntry} {r : GrantRecord} {rc : RecallRecord} (hl : l.Sublist s.waitList)
      (hr : r ∈ s.grantTable.records) (hclear : LeasesSound s → NoneConverts l r) :
      Move s ((s.setWaitList l).modRecord r.slot fun x => x.withRecall (some rc))
  | eased {f : GrantRecord → GrantRecord} (h : ∀ r, Eased r (f r)) :
      Move s (s.setRecords (s.grantTable.records.map f))
  | recordsLeave {l : List WaitEntry} {k : List GrantRecord} (hl : l.Sublist s.waitList)
      (hk : k.Sublist s.grantTable.records)
      (hclear : LeasesSound s → ∀ r ∈ s.grantTable.records, r ∉ k → NoneConverts l r) :
      Move s ((s.setWaitList l).setRecords k)
  | messages {p : PerAgent (List RecallMessage)}
      (h : ∀ a, p.get a ≠ [] → s.sendList a ≠ [] ∨ ∃ r ∈ s.grantTable.records, r.holder = a) :
      Move s { s with sendLists := p }
  | sessionStarts {a : AgentId} {x : Session} (hepoch : x.epoch = nextEpoch (s.session a).epoch)
      (hflag : EpochLaw s → x.admitFlag = true) (hfresh : SessionLaw s → NothingOf s a) :
      Move s { s with sessions := s.sessions.set a x }
  | sessionEnds {a : AgentId} {x : Session} (hepoch : x.epoch = (s.session a).epoch) (hactive : isActive x.state = false)
      (hnothing : NothingOf s a) : Move s { s with sessions := s.sessions.set a x }

/-- A run of moves. -/
abbrev Moves : State → State → Prop := Relation.ReflTransGen Move

/-- What every move keeps, a run of them keeps. -/
theorem Moves.keeps {P : State → Prop} (hP : ∀ s t, Move s t → P s → P t) {s t : State} (h : Moves s t) (hs : P s) :
    P t := by
  induction h with
  | refl => exact hs
  | tail _ hlast ih => exact hP _ _ hlast ih

/-! ## What a move keeps -/

theorem tableGrant_frame (s : State) (c : Claim) (epoch : Nat) :
    ∃ g, tableGrant s c epoch = { s with grantTable := g } := by
  unfold tableGrant State.createRecord
  split
  · split
    · exact ⟨_, rfl⟩
    · exact ⟨_, rfl⟩
  · exact ⟨_, rfl⟩

/-- A directory that is configured stays so. -/
theorem Move.configured {s t : State} (h : Move s t) (hs : s.management.state ≠ .unconfigured) :
    t.management.state ≠ .unconfigured := by
  cases h with
  | quiet h => exact fun ht => hs (h.configured ht)
  | volume hstate => exact hstate ▸ hs
  | @granted l c epoch =>
    obtain ⟨g, hg⟩ := tableGrant_frame (s.setWaitList l) c epoch
    exact hg ▸ hs
  | _ => exact hs

/-! ### The index law -/

theorem indexLaw_tableGrant {s : State} {c : Claim} (h : IndexLaw s) (epoch : Nat) (hroom : s.hasRoom c = true) :
    IndexLaw (tableGrant s c epoch) := by
  cases hkind : c.kind with
  | acquire =>
    obtain ⟨⟨slot, hslot⟩, htoken⟩ := hasRoom_acquire hkind hroom
    obtain ⟨hlt, hunused, -⟩ := lowestFree_of_freeSlot hslot
    rw [tableGrant_acquire hkind hslot]
    exact indexLaw_insert h (fun q hq => (hunused q hq).symm) hlt rfl htoken
  | convert slot =>
    rw [tableGrant_convert hkind]
    exact indexLaw_upgrade h (hasRoom_convert hkind hroom)

theorem Move.indexLaw {s t : State} (h : Move s t) (hs : IndexLaw s) : IndexLaw t := by
  cases h with
  | quiet h => unfold IndexLaw; rw [h.grantTable]; exact hs
  | @granted l c epoch _ _ _ _ hroom => exact indexLaw_tableGrant (s := s.setWaitList l) hs epoch hroom
  | recalled => exact indexLaw_map hs fun r => by split <;> exact ⟨rfl, rfl, rfl⟩
  | eased h => exact indexLaw_map hs fun r => ⟨(h r).slot, (h r).token, (h r).extent⟩
  | recordsLeave _ hk => exact indexLaw_sublist hs hk
  | _ => exact hs

/-! ### Tokens (R7, R15) -/

theorem tokensGrow_refl (s : State) : TokensGrow s s := ⟨le_refl _, fun r hr => .inl ⟨r, hr, rfl, rfl, rfl, rfl, rfl⟩⟩

theorem tokensGrow_trans {s t u : State} (h : TokensGrow s t) (k : TokensGrow t u) : TokensGrow s u := by
  obtain ⟨hcounter, hrecords⟩ := h
  obtain ⟨kcounter, krecords⟩ := k
  refine ⟨hcounter.trans kcounter, fun r hr => ?_⟩
  rcases krecords r hr with ⟨q, hq, htoken, hslot, hholder, hepoch, hextent⟩ | ⟨hnew, hmax⟩
  · rcases hrecords q hq with ⟨p, hp, ptoken, pslot, pholder, pepoch, pextent⟩ | ⟨hnew, hmax⟩
    · exact .inl ⟨p, hp, ptoken.trans htoken, pslot.trans hslot, pholder.trans hholder, pepoch.trans hepoch,
        pextent.trans hextent⟩
    · exact .inr (htoken ▸ ⟨hnew, hmax.trans kcounter⟩)
  · exact .inr ⟨hcounter.trans_lt hnew, hmax⟩

/-- Every record is one that was there, but for what may change of a lease while its token stands. -/
theorem tokensGrow_of_same {s t : State} (hcounter : t.grantTable.counter = s.grantTable.counter)
    (h : ∀ r ∈ t.grantTable.records, ∃ q ∈ s.grantTable.records, q.token = r.token ∧ q.slot = r.slot ∧
      q.holder = r.holder ∧ q.epoch = r.epoch ∧ q.extent = r.extent) : TokensGrow s t :=
  ⟨hcounter.ge, fun r hr => .inl (h r hr)⟩

theorem tokensGrow_tableGrant (s : State) (c : Claim) (epoch : Nat) : TokensGrow s (tableGrant s c epoch) := by
  have hnext : s.nextToken = s.grantTable.counter + 1 := rfl
  unfold tableGrant
  split
  · unfold State.createRecord
    split
    · exact tokensGrow_refl s
    · refine ⟨Nat.le_succ _, fun r hr => ?_⟩
      rcases mem_insertRecord hr with rfl | hold
      · exact .inr ⟨by change _ < s.nextToken; omega, le_refl _⟩
      · exact .inl ⟨r, hold, rfl, rfl, rfl, rfl, rfl⟩
  · rename_i slot _
    refine ⟨Nat.le_succ _, ?_⟩
    rw [upgradeRecord_grantTable]
    refine List.forall_mem_map.mpr fun r hr => ?_
    by_cases hslot : r.slot = slot
    · exact .inr (by rw [upgradedIn_token, if_pos hslot]; dsimp only; omega)
    · exact .inl ⟨r, hr, by simp [upgradedIn_other _ hslot]⟩

theorem Move.tokensGrow {s t : State} (h : Move s t) : TokensGrow s t := by
  cases h with
  | quiet h => unfold TokensGrow; rw [h.grantTable]; exact tokensGrow_refl s
  | @granted l c epoch => exact tokensGrow_tableGrant (s.setWaitList l) c epoch
  | recalled =>
    refine tokensGrow_of_same rfl (List.forall_mem_map.mpr fun r hr => ⟨r, hr, ?_⟩)
    split <;> exact ⟨rfl, rfl, rfl, rfl, rfl⟩
  | eased h => exact tokensGrow_of_same rfl (List.forall_mem_map.mpr fun r hr =>
      ⟨r, hr, (h r).token.symm, (h r).slot.symm, (h r).holder.symm, (h r).epoch.symm, (h r).extent.symm⟩)
  | recordsLeave _ hk => exact tokensGrow_of_same rfl fun r hr => ⟨r, hk.subset hr, rfl, rfl, rfl, rfl, rfl⟩
  | _ => exact tokensGrow_refl s

/-! ### The session law (R25, R34, R74) -/

/-- The session law where every session still stands that holds something. -/
theorem sessionLaw_of {s t : State} (hs : SessionLaw s)
    (hrecords : ∀ q ∈ t.grantTable.records, (∃ r ∈ s.grantTable.records, r.holder = q.holder ∧ r.epoch = q.epoch) ∨
      ActiveUnder s q.holder q.epoch)
    (hentries : ∀ e ∈ t.waitList, ActiveUnder s e.agent e.epoch)
    (hmessages : ∀ a, t.sendList a ≠ [] → s.sendList a ≠ [] ∨ ∃ r ∈ s.grantTable.records, r.holder = a)
    (hsessions : ∀ a, SameStanding (s.session a) (t.session a)) : SessionLaw t := by
  obtain ⟨srecords, sentries, smessages⟩ := hs
  have hstill : ∀ {a epoch}, ActiveUnder s a epoch → ActiveUnder t a epoch := activeUnder_sameStanding (hsessions _)
  refine ⟨fun q hq => hstill ?_, fun e he => hstill (hentries e he), fun a ha => (hsessions a).epoch ▸ hstill ?_⟩
  · rcases hrecords q hq with ⟨r, hr, hholder, hepoch⟩ | hactive
    · exact hholder ▸ hepoch ▸ srecords r hr
    · exact hactive
  · rcases hmessages a ha with hold | ⟨r, hr, rfl⟩
    · exact smessages a hold
    · obtain ⟨hactive, hepoch⟩ := srecords r hr
      exact ⟨hactive, rfl⟩

theorem mem_of_terms {l m : List WaitEntry} (h : (l.map entryTerms).Sublist (m.map entryTerms)) {e : WaitEntry}
    (he : e ∈ l) : ∃ f ∈ m, f.agent = e.agent ∧ f.epoch = e.epoch := by
  obtain ⟨f, hf, hterms⟩ := List.mem_map.mp (h.subset (List.mem_map_of_mem he))
  exact ⟨f, hf, congrArg (fun t => t.1.agent) hterms, congrArg Prod.snd hterms⟩

/-- A session of an agent that holds nothing changes. -/
theorem sessionLaw_set {s : State} {a : AgentId} {x : Session} (hs : SessionLaw s) (h : NothingOf s a) :
    SessionLaw { s with sessions := s.sessions.set a x } := by
  obtain ⟨srecords, sentries, smessages⟩ := hs
  have hother : ∀ {b epoch}, b ≠ a → ActiveUnder s b epoch → ActiveUnder { s with sessions := s.sessions.set a x } b epoch := by
    intro b epoch hne hb
    unfold ActiveUnder State.session
    rw [PerAgent.get_set_ne _ hne]
    exact hb
  have hmessage : ∀ b, s.sendList b ≠ [] → b ≠ a := fun b hb he => hb (he ▸ h.messages)
  refine ⟨fun r hr => hother (h.records r hr) (srecords r hr), fun e he => hother (h.entries e he) (sentries e he),
    fun b hb => ?_⟩
  obtain ⟨hactive, -⟩ := hother (hmessage b hb) (smessages b hb)
  exact ⟨hactive, rfl⟩

theorem mem_tableGrant {s : State} {c : Claim} {epoch : Nat} {q : GrantRecord}
    (hq : q ∈ (tableGrant s c epoch).grantTable.records) :
    (∃ r ∈ s.grantTable.records, r.holder = q.holder ∧ r.epoch = q.epoch) ∨ (q.holder = c.agent ∧ q.epoch = epoch) := by
  unfold tableGrant State.createRecord at hq
  split at hq
  · split at hq
    · exact .inl ⟨q, hq, rfl, rfl⟩
    · rcases mem_insertRecord hq with rfl | hold
      · exact .inr ⟨rfl, rfl⟩
      · exact .inl ⟨q, hold, rfl, rfl⟩
  · rw [upgradeRecord_grantTable] at hq
    obtain ⟨r, hr, rfl⟩ := List.mem_map.mp hq
    exact .inl ⟨r, hr, by simp⟩

theorem Move.sessionLaw {s t : State} (h : Move s t) (hs : SessionLaw s) : SessionLaw t := by
  have hstay := hs
  obtain ⟨-, sentries, -⟩ := hstay
  have hsame : ∀ q ∈ s.grantTable.records,
      (∃ r ∈ s.grantTable.records, r.holder = q.holder ∧ r.epoch = q.epoch) ∨ ActiveUnder s q.holder q.epoch :=
    fun q hq => .inl ⟨q, hq, rfl, rfl⟩
  have hsend : ∀ a, s.sendList a ≠ [] → s.sendList a ≠ [] ∨ ∃ r ∈ s.grantTable.records, r.holder = a := fun _ => .inl
  have hstand : ∀ a, SameStanding (s.session a) (s.session a) := fun a => .refl _
  cases h with
  | quiet h =>
    refine sessionLaw_of hs (by rw [h.grantTable]; exact hsame) (by rw [h.waitList]; exact sentries) (fun a ha => ?_)
      h.sessions
    exact .inl (by rwa [State.sendList, h.sendLists] at ha)
  | sweepStarts => exact hs
  | volume => exact hs
  | entries h =>
    refine sessionLaw_of hs hsame (fun e he => ?_) hsend hstand
    obtain ⟨f, hf, hagent, hepoch⟩ := mem_of_terms h he
    exact hagent ▸ hepoch ▸ sentries f hf
  | entryJoins _ hactive =>
    refine sessionLaw_of hs hsame (fun e he => ?_) hsend hstand
    rcases List.mem_append.mp he with hold | hnew
    · exact sentries e hold
    · exact List.mem_singleton.mp hnew ▸ hactive hs
  | @granted l c epoch hl _ hactive =>
    obtain ⟨g, hg⟩ := tableGrant_frame (s.setWaitList l) c epoch
    refine sessionLaw_of hs (fun q hq => ?_) (fun e he => sentries e (hl.subset ?_)) ?_ ?_
    · rcases mem_tableGrant hq with hold | ⟨hholder, hepoch⟩
      · exact .inl hold
      · exact .inr (hholder ▸ hepoch ▸ hactive hs)
    · rw [hg] at he; exact he
    · rw [hg]; exact hsend
    · rw [hg]; exact hstand
  | recalled hl =>
    refine sessionLaw_of hs (List.forall_mem_map.mpr fun r hr => .inl ⟨r, hr, ?_⟩)
      (fun e he => sentries e (hl.subset he)) hsend hstand
    split <;> exact ⟨rfl, rfl⟩
  | eased h =>
    exact sessionLaw_of hs (List.forall_mem_map.mpr fun r hr => .inl ⟨r, hr, (h r).holder.symm, (h r).epoch.symm⟩)
      sentries hsend hstand
  | recordsLeave hl hk =>
    exact sessionLaw_of hs (fun q hq => hsame q (hk.subset hq)) (fun e he => sentries e (hl.subset he)) hsend hstand
  | messages h => exact sessionLaw_of hs hsame sentries h hstand
  | sessionStarts _ _ hfresh => exact sessionLaw_set hs (hfresh hs)
  | sessionEnds _ _ hnothing => exact sessionLaw_set hs hnothing

/-! ### The epoch law (R77, R79, R80) -/

theorem nextEpoch_bounds {n : Nat} (h : n ≤ Config.epochMax) : 1 ≤ nextEpoch n ∧ nextEpoch n ≤ Config.epochMax := by
  unfold nextEpoch
  split <;> simp only [Config.epochMax] at * <;> omega

/-- One session changes; the others keep the epoch law. -/
theorem epochLaw_set {s : State} {a : AgentId} {x : Session} (hs : EpochLaw s) (hmax : x.epoch ≤ Config.epochMax)
    (hactive : isActive x.state = true → 1 ≤ x.epoch ∧ x.admitFlag = true) :
    EpochLaw { s with sessions := s.sessions.set a x } := by
  rw [epochLaw_iff] at *
  intro b
  unfold State.session
  rw [PerAgent.get_set]
  split
  · exact ⟨hmax, hactive⟩
  · exact hs b

theorem Move.epochLaw {s t : State} (h : Move s t) (hs : EpochLaw s) : EpochLaw t := by
  cases h with
  | quiet h =>
    rw [epochLaw_iff] at *
    intro a
    obtain ⟨hmax, hactive⟩ := hs a
    have hsame := h.sessions a
    rw [hsame.epoch, hsame.active]
    exact ⟨hmax, fun ha => ⟨(hactive ha).1, hsame.flag ha (hactive ha).2⟩⟩
  | @granted l c epoch =>
    obtain ⟨g, hg⟩ := tableGrant_frame (s.setWaitList l) c epoch
    exact hg ▸ hs
  | sessionStarts hepoch hflag =>
    obtain ⟨hmin, hmax⟩ := nextEpoch_bounds (hs _).1
    exact epochLaw_set hs (hepoch ▸ hmax) fun _ => ⟨hepoch ▸ hmin, hflag hs⟩
  | sessionEnds hepoch hactive => exact epochLaw_set hs (hepoch ▸ (hs _).1) (by simp [hactive])
  | _ => exact hs

/-! ### Leases and claims (R3, R6, R10, R33, R47) -/

theorem usesBeyond_false {s : State} {volume : Nat} (h : s.usesBeyond volume = false) :
    (∀ r ∈ s.grantTable.records, r.extent.stop ≤ volume) ∧ ∀ e ∈ s.waitList, e.extent.stop ≤ volume := by
  simpa [State.usesBeyond] using h

/-- The volume changes to one that no lease or claim ends past (R163). -/
theorem LeasesSound.volume {s : State} {m : Management} (h : LeasesSound s)
    (huse : s.usesBeyond m.params.volume = false) : LeasesSound { s with management := m } := by
  obtain ⟨hrecords, hentries⟩ := usesBeyond_false huse
  have hfits : ∀ {x : Extent}, x.valid s.params.volume = true → x.stop ≤ m.params.volume →
      x.valid m.params.volume = true := fun hx hstop => by
    rw [valid_iff] at *
    exact ⟨hx.1, hx.2.1, hstop⟩
  refine ⟨h.index, h.noConflict, fun r hr => hfits (h.extents r hr) (hrecords r hr), h.apart,
    List.forall_mem_map.mpr fun e he => ?_⟩
  have hsound := h.claims _ (List.mem_map_of_mem he)
  exact ⟨hsound.clear, hsound.subject, hfits hsound.valid (hentries e he)⟩

/-- Leases and claims are read from the Grant Table, the Wait List and the volume alone. -/
theorem LeasesSound.congr {s t : State} (h : LeasesSound s) (htable : t.grantTable = s.grantTable := by rfl)
    (hlist : t.waitList = s.waitList := by rfl) (hvolume : t.params.volume = s.params.volume := by rfl) :
    LeasesSound t := by
  have hclaim : ∀ {c}, ClaimSound s c → ClaimSound t c := fun hc =>
    ⟨by rw [htable]; exact hc.clear, by rw [htable]; exact hc.subject, by rw [hvolume]; exact hc.valid⟩
  refine ⟨?_, ?_, ?_, ?_, ?_⟩
  · unfold IndexLaw; rw [htable]; exact h.index
  · unfold NoConflict; rw [htable]; exact h.noConflict
  · rw [htable, hvolume]; exact h.extents
  · rw [hlist]; exact h.apart
  · rw [hlist]; exact fun c hc => hclaim (h.claims c hc)

theorem LeasesSound.sublist {s : State} {l : List WaitEntry} (h : LeasesSound s) (hl : l.Sublist s.waitList) :
    LeasesSound (s.setWaitList l) := h.entries (hl.map _)

/-- A record is recalled, and no CONVERT of it waits (R47, R59). -/
theorem LeasesSound.recalled {s : State} {r : GrantRecord} (h : LeasesSound s) (rc : RecallRecord)
    (hr : r ∈ s.grantTable.records) (hclear : NoneConverts s.waitList r) :
    LeasesSound (s.modRecord r.slot fun x => x.withRecall (some rc)) := by
  refine h.recordsChange (fun q => ?_) (fun q hq => ?_) (List.forall_mem_map.mpr fun e he q hq hkind ha hheld => ?_)
  · split <;> exact ⟨rfl, rfl, rfl, rfl⟩
  · split <;> exact hq
  · have hother : q.slot ≠ r.slot := fun hslot => by
      obtain rfl := slot_unique h.index.2.1 hq hr hslot
      exact hclear e he ha hkind
    rw [if_neg hother]
    exact hheld

theorem Move.leasesSound {s t : State} (h : Move s t) (hs : LeasesSound s) : LeasesSound t := by
  cases h with
  | quiet h => exact hs.congr h.grantTable h.waitList h.volume
  | sweepStarts => exact hs.congr
  | volume _ huse => exact hs.volume huse
  | entries h =>
    have hclaims := h.map Prod.fst
    rw [List.map_map, List.map_map] at hclaims
    exact hs.entries hclaims
  | entryJoins hfits => exact hs.entryJoins (hfits hs)
  | granted hl hfits _ hfree hroom => exact (hs.sublist hl).granted _ (hfits hs) hfree hroom
  | recalled hl hr hclear => exact (hs.sublist hl).recalled _ hr (hclear hs)
  | eased h =>
    exact hs.recordsChange (fun r => ⟨(h r).slot, (h r).token, (h r).holder, (h r).extent⟩) (fun r => (h r).mode)
      fun _ _ r _ _ _ => (h r).recallRecord
  | recordsLeave hl hk hclear =>
    exact (hs.sublist hl).recordsLeave hk (List.forall_mem_map.mpr fun e he r hr hgone => hclear hs r hr hgone e he)
  | messages => exact hs.congr
  | sessionStarts => exact hs.congr
  | sessionEnds => exact hs.congr

end Sys2Proof.Laws
end

section
/-!
SUPPORT. The named operations that change no table: links, frames that arrive and are sent, reports, counters, the Churn
Monitor, the session lease and the sweep's own state. In the order of the model's files.
-/

namespace Sys2Proof.Laws

-- One lemma at a time: checked at once, so many would start more threads than the memory limit of check.sh allows.
set_option Elab.async false

open Sys2Proof.Machine Sys2Proof.Safety

/-! ## Changes of one block -/

section
variable (s : State)

theorem modLink_quiet (a : AgentId) (f : AgentLink → AgentLink) : Quiet s (s.modLink a f) := {}

theorem modMember_quiet (a : AgentId) (f : ChurnMember → ChurnMember) : Quiet s (s.modMember a f) := {}

theorem modMgmt_quiet (f : MgmtLink → MgmtLink) : Quiet s (s.modMgmt f) := {}

theorem report_quiet (r : Report) : Quiet s (s.report r) := {}

theorem setChurn_quiet (m : ChurnMonitor) : Quiet s { s with churn := m } := {}

theorem setReportQueue_quiet (q : ReportQueue) : Quiet s { s with reportQueue := q } := {}

theorem modSweep_quiet (f : Sweep → Sweep) : Quiet s (s.modSweep f) where
  sweep h := by simp [State.modSweep, h]

/-- A session changes and keeps its standing. -/
theorem modSession_quiet (a : AgentId) {f : Session → Session} (h : SameStanding (s.session a) (f (s.session a))) :
    Quiet s (s.modSession a f) where
  sessions b := by
    rw [State.modSession_session]
    split
    · rename_i hb
      exact hb ▸ h
    · exact .refl _

theorem modCounters_quiet (a : AgentId) (f : AgentCounters → AgentCounters) : Quiet s (s.modCounters a f) :=
  modSession_quiet s a {}

theorem foldl_quiet {α : Type} {f : State → α → State} (h : ∀ t x, Quiet t (f t x)) :
    ∀ (l : List α) (s : State), Quiet s (l.foldl f s)
  | [], s => .refl s
  | x :: l, s => (h s x).trans (foldl_quiet h l (f s x))

end

/-! ## The shared operations -/

theorem protocolError_quiet (s : State) (a : AgentId) (kind : ProtocolErrorKind) (code : Nat) :
    Quiet s (s.protocolError a kind code) := (modCounters_quiet ..).trans (report_quiet ..)

theorem mgmtProtocolError_quiet (s : State) (kind : ProtocolErrorKind) (code : Nat) :
    Quiet s (s.mgmtProtocolError kind code) := (modMgmt_quiet ..).trans (report_quiet ..)

theorem placeNotice_quiet (s : State) (a : AgentId) (kind : NoticeKind) (epoch : Nat) :
    Quiet s (s.placeNotice a kind epoch) := modLink_quiet ..

theorem placeReply_quiet (s : State) (a : AgentId) (tag : Nat) (reply : AgentReply) :
    Quiet s (s.placeReply a tag reply) := modLink_quiet ..

theorem refuse_quiet (s : State) (a : AgentId) (tag : Nat) (code : RefusalCode) : Quiet s (s.refuse a tag code) :=
  placeReply_quiet ..

theorem refuseEntries_quiet (s : State) (l : List WaitEntry) (code : RefusalCode) : Quiet s (s.refuseEntries l code) :=
  foldl_quiet (fun _ _ => refuse_quiet ..) l s

theorem linkError_quiet (s : State) (a : AgentId) (cause : LinkCause) : Quiet s (s.linkError a cause) :=
  (modLink_quiet ..).trans (report_quiet ..)

theorem mgmtLinkError_quiet (s : State) (cause : LinkCause) : Quiet s (s.mgmtLinkError cause) :=
  (modMgmt_quiet ..).trans (report_quiet ..)

theorem renewLease_quiet (s : State) (a : AgentId) (epoch : Nat) : Quiet s (s.renewLease a epoch) := by
  unfold State.renewLease
  split
  · rename_i d hd
    split
    · exact modSession_quiet s a ⟨rfl, by simp [hd, isActive], by simp [hd], fun _ h => h⟩
    · exact .refl s
  · exact .refl s

/-! ## Agent links (Chapter 7) -/

theorem signalFound_quiet (s : State) (link : LinkId) : Quiet s (s.signalFound link) := by
  cases link with
  | agent a =>
    unfold State.signalFound
    dsimp only
    split
    · exact (modLink_quiet ..).trans (report_quiet ..)
    · exact .refl s
  | mgmt =>
    unfold State.signalFound
    dsimp only
    split
    · exact (modMgmt_quiet ..).trans (report_quiet ..)
    · exact .refl s

theorem signalLost_quiet (s : State) (link : LinkId) : Quiet s (s.signalLost link) := by
  cases link with
  | agent a =>
    unfold State.signalLost
    dsimp only
    split
    · exact .refl s
    · exact (modLink_quiet ..).trans (report_quiet ..)
  | mgmt =>
    unfold State.signalLost
    dsimp only
    split
    · exact .refl s
    · exact (modMgmt_quiet ..).trans (report_quiet ..)

theorem syncArrives_quiet (s : State) (a : AgentId) (f : RawFrame) : Quiet s (s.syncArrives a f) := by
  unfold State.syncArrives State.goodSync
  split
  · exact protocolError_quiet ..
  · refine .trans ?_ (modLink_quiet ..)
    split
    · exact (renewLease_quiet ..).trans (report_quiet ..)
    · exact renewLease_quiet ..

theorem answerableArrives_quiet (s : State) (a : AgentId) (k : AnswerableKind) (f : RawFrame) :
    Quiet s (s.answerableArrives a k f) := by
  unfold State.answerableArrives
  split
  · exact linkError_quiet ..
  · exact (modLink_quiet ..).trans (modLink_quiet ..)

theorem closingArrives_quiet (s : State) (a : AgentId) (k : ClosingKind) (f : RawFrame) :
    Quiet s (s.closingArrives a k f) := by
  unfold State.closingArrives
  split
  · exact linkError_quiet ..
  · exact (modLink_quiet ..).trans (modLink_quiet ..)

theorem unknownArrives_quiet (s : State) (a : AgentId) (f : RawFrame) : Quiet s (s.unknownArrives a f) := by
  unfold State.unknownArrives
  split
  · exact linkError_quiet ..
  · exact ((modLink_quiet ..).trans (modLink_quiet ..)).trans (protocolError_quiet ..)

theorem crcFailure_quiet (s : State) (a : AgentId) : Quiet s (s.crcFailure a) := modCounters_quiet ..

theorem frameArrives_quiet (s : State) (a : AgentId) (bytes : List Byte) : Quiet s (s.frameArrives a bytes) := by
  unfold State.frameArrives State.arrivesInWaitSync State.arrivesInRun
  split
  · exact .refl s
  · split
    · exact .refl s
    · exact crcFailure_quiet ..
    · split
      · exact syncArrives_quiet ..
      · exact .refl s
  · split
    · exact linkError_quiet ..
    · exact (crcFailure_quiet ..).trans (linkError_quiet ..)
    · split
      · exact syncArrives_quiet ..
      · exact answerableArrives_quiet ..
      · exact closingArrives_quiet ..
      · exact unknownArrives_quiet ..

/-! ## Churn Monitor (Chapter 6) -/

theorem raiseAlarm_quiet (s : State) (a : AgentId) : Quiet s (s.raiseAlarm a) := by
  have hraised : ∀ r, Quiet s ((s.modMember a fun m => { m with alarm := true }).report r) := fun r =>
    (modMember_quiet ..).trans (report_quiet ..)
  unfold State.raiseAlarm
  dsimp only
  split
  · exact (hraised _).trans (placeNotice_quiet ..)
  · exact hraised _

theorem testAlarm_quiet (s : State) (a : AgentId) : Quiet s (s.testAlarm a) := by
  unfold State.testAlarm
  split
  · exact raiseAlarm_quiet ..
  · exact .refl s

theorem recordOutcome_quiet (s : State) (a : AgentId) (o : ChurnOutcome) : Quiet s (s.recordOutcome a o) := by
  unfold State.recordOutcome
  split
  · exact (modMember_quiet ..).trans (testAlarm_quiet ..)
  · exact .refl s

theorem clearGroupWindows_quiet (s : State) (g : GroupId) : Quiet s (s.clearGroupWindows g) := by
  refine foldl_quiet (fun t a => ?_) _ s
  split
  · exact modMember_quiet ..
  · exact .refl t

/-! ## Sweep Engine (Chapter 5) -/

theorem endSweep_quiet (s : State) (status : SweepEnd) : Quiet s (s.endSweep status) := by
  unfold State.endSweep
  split
  · exact .refl s
  · exact { sweep := fun _ => rfl }

theorem completeIfDrained_quiet (s : State) : Quiet s s.completeIfDrained := by
  unfold State.completeIfDrained
  split
  · split
    · exact endSweep_quiet ..
    · exact .refl s
  · exact .refl s

theorem resolvePending_quiet (s : State) (how : Resolution) : Quiet s (s.resolvePending how) :=
  (modSweep_quiet ..).trans (completeIfDrained_quiet _)

/-! ## Taking and answering -/

theorem afterTakingAnswerable_quiet (s : State) (a : AgentId) (epoch : Nat) :
    Quiet s (s.afterTakingAnswerable a epoch) := (modLink_quiet ..).trans (renewLease_quiet ..)

theorem afterTakingClosing_quiet (s : State) (a : AgentId) (epoch : Nat) :
    Quiet s (s.afterTakingClosing a epoch) := (modLink_quiet ..).trans (renewLease_quiet ..)

theorem afterTakingCommand_quiet (s : State) : Quiet s s.afterTakingCommand := modMgmt_quiet ..

theorem placeMgmtReply_quiet (s : State) (r : MgmtReply) : Quiet s (s.placeMgmtReply r) := modMgmt_quiet ..

theorem timeAdvances_quiet (s : State) : Quiet s s.timeAdvances := {}

/-! ## LI-M (sections 8.1 and 8.8) -/

theorem mgmtSyncArrives_quiet (s : State) (f : RawFrame) : Quiet s (s.mgmtSyncArrives f) := by
  unfold State.mgmtSyncArrives State.mgmtGoodSync
  split
  · exact mgmtProtocolError_quiet ..
  · refine .trans ?_ (modMgmt_quiet ..)
    split
    · exact report_quiet ..
    · exact .refl s

theorem commandArrives_quiet (s : State) (k : CommandKind) (f : RawFrame) : Quiet s (s.commandArrives k f) := by
  unfold State.commandArrives
  split
  · exact mgmtLinkError_quiet ..
  · exact (modMgmt_quiet ..).trans (modMgmt_quiet ..)

theorem mgmtUnknownArrives_quiet (s : State) (f : RawFrame) : Quiet s (s.mgmtUnknownArrives f) := by
  unfold State.mgmtUnknownArrives
  split
  · exact mgmtLinkError_quiet ..
  · exact ((modMgmt_quiet ..).trans (modMgmt_quiet ..)).trans (mgmtProtocolError_quiet ..)

theorem mgmtCrcFailure_quiet (s : State) : Quiet s s.mgmtCrcFailure := by
  unfold State.mgmtCrcFailure State.modMgmtCounters
  exact modMgmt_quiet ..

theorem mgmtFrameArrives_quiet (s : State) (bytes : List Byte) : Quiet s (s.mgmtFrameArrives bytes) := by
  unfold State.mgmtFrameArrives State.mgmtArrivesInWaitSync State.mgmtArrivesInRun
  split
  · exact .refl s
  · split
    · exact .refl s
    · exact mgmtCrcFailure_quiet s
    · split
      · exact mgmtSyncArrives_quiet ..
      · exact .refl s
  · split
    · exact mgmtLinkError_quiet ..
    · exact (mgmtCrcFailure_quiet s).trans (mgmtLinkError_quiet ..)
    · split
      · exact mgmtSyncArrives_quiet ..
      · exact commandArrives_quiet ..
      · exact mgmtUnknownArrives_quiet ..

theorem reportAckTaken_quiet (s : State) : Quiet s s.reportAckTaken := by
  unfold State.reportAckTaken
  split
  · exact .refl s
  · split
    · dsimp only
      split
      · exact modMgmt_quiet ..
      · exact (modMgmt_quiet ..).trans (mgmtProtocolError_quiet ..)
    · exact .refl s

theorem leaveMgmtLane_quiet (s : State) (choice : MgmtSend) : Quiet s (s.leaveMgmtLane choice) := by
  cases choice with
  | syncAck n =>
    unfold State.leaveMgmtLane
    exact modMgmt_quiet ..
  | reply r =>
    unfold State.leaveMgmtLane
    dsimp only
    split
    · exact modMgmt_quiet ..
    · exact (modMgmt_quiet ..).trans (modMgmt_quiet ..)
  | report head => exact (modMgmt_quiet ..).trans (setReportQueue_quiet ..)
  | credit => exact .refl s

theorem mgmtLinkSends_quiet (s : State) : Quiet s s.mgmtLinkSends := by
  unfold State.mgmtLinkSends
  split
  · split
    · exact .refl s
    · exact (leaveMgmtLane_quiet ..).trans (modMgmt_quiet ..)
  · exact .refl s

end Sys2Proof.Laws
end

section
/-!
SUPPORT. The named operations that do change a table are runs of moves. In the order of the model's files.
-/

namespace Sys2Proof.Laws

-- One lemma at a time: checked at once, so many would start more threads than the memory limit of check.sh allows.
set_option Elab.async false

open Sys2Proof.Machine Sys2Proof.Safety

/-! ## Runs -/

theorem Quiet.moves {s t : State} (h : Quiet s t) : Moves s t := .single (.quiet h)

theorem Quiet.setWaitList {s t : State} (h : Quiet s t) (l : List WaitEntry) :
    Quiet (s.setWaitList l) (t.setWaitList l) :=
  ⟨h.grantTable, rfl, h.sendLists, h.volume, h.configured, h.sweep, h.sessions⟩

theorem foldl_moves {α : Type} {f : State → α → State} (h : ∀ t x, Moves t (f t x)) :
    ∀ (l : List α) (s : State), Moves s (l.foldl f s)
  | [], _ => .refl
  | x :: l, s => (h s x).trans (foldl_moves h l (f s x))

/-- RECALL messages leave or change in a send list. -/
theorem modSendList_moves (s : State) (a : AgentId) {f : List RecallMessage → List RecallMessage} (h : f [] = []) :
    Moves s (s.modSendList a f) := by
  refine .single (.messages fun b hb => .inl fun hnil => hb ?_)
  rw [PerAgent.get_modify]
  split
  · exact (congrArg f hnil).trans h
  · exact hnil

/-- RECALL messages join the send list of an agent that holds a record. -/
theorem holderSendList_moves (s : State) {r : GrantRecord} (hr : r ∈ s.grantTable.records)
    (f : List RecallMessage → List RecallMessage) : Moves s (s.modSendList r.holder f) := by
  refine .single (.messages fun b hb => ?_)
  rw [PerAgent.get_modify] at hb
  split at hb
  · rename_i he
    exact .inr ⟨r, hr, he.symm⟩
  · exact .inl hb

/-- Entries leave the Wait List. -/
theorem setWaitList_moves (s : State) {l : List WaitEntry} (h : l.Sublist s.waitList) : Moves s (s.setWaitList l) :=
  .single (.entries (h.map entryTerms))

/-! ## Agent links (Chapter 7) -/

theorem leaveLane_moves (s : State) (a : AgentId) (choice : AgentSend) : Moves s (s.leaveLane a choice) := by
  cases choice with
  | control frame => exact (modLink_quiet ..).moves
  | reply r =>
    unfold State.leaveLane
    dsimp only
    split
    · exact ((modLink_quiet ..).trans (modCounters_quiet ..)).moves
    · exact (modLink_quiet ..).moves
  | recallMessage m => exact (modLink_quiet ..).moves.trans (modSendList_moves _ a rfl)
  | credit => exact .refl

theorem agentLinkSends_moves (s : State) (a : AgentId) : Moves s (s.agentLinkSends a) := by
  unfold State.agentLinkSends
  split
  · split
    · exact .refl
    · exact (leaveLane_moves ..).trans (modLink_quiet ..).moves
  · exact .refl

/-! ## Recall Engine (Chapter 3) -/

/-- What `dropConvert` does to the tables: the first CONVERT of the record leaves, if there is one. -/
theorem dropConvert_quiet (s : State) (a : AgentId) (slot : Nat) (code : RefusalCode) :
    Quiet (s.setWaitList (s.waitList.eraseP fun e => e.converts a slot)) (s.dropConvert a slot code) := by
  unfold State.dropConvert
  split
  · rename_i hnone
    rw [List.eraseP_of_forall_not (List.find?_eq_none.mp hnone)]
    exact .refl s
  · exact refuse_quiet ..

theorem converts_iff (e : WaitEntry) (a : AgentId) (slot : Nat) :
    e.converts a slot = true ↔ e.agent = a ∧ e.kind = .convert slot := by simp [WaitEntry.converts]

/-- The subject of a waiting CONVERT is the record in the slot it names, which is HELD. -/
theorem LeasesSound.subject_eq {s : State} {e : WaitEntry} {r : GrantRecord} (h : LeasesSound s) (he : e ∈ s.waitList)
    (hr : r ∈ s.grantTable.records) (hkind : e.kind = .convert r.slot) :
    r.extent = e.extent ∧ r.recallRecord = none := by
  obtain ⟨-, q, hq, hslot, -, hextent, -, hheld⟩ :=
    (h.claims _ (List.mem_map_of_mem he)).subject r.slot hkind
  obtain rfl := slot_unique h.index.2.1 hq hr hslot
  exact ⟨hextent, hheld⟩

/-- At most one CONVERT of a record waits: once the first has left, none does. -/
theorem noneConverts_eraseP {s : State} {r : GrantRecord} (h : LeasesSound s) (hr : r ∈ s.grantTable.records) :
    NoneConverts (s.waitList.eraseP fun e => e.converts r.holder r.slot) r := by
  intro e he ha hkind
  have hconverts : e.converts r.holder r.slot = true := (converts_iff ..).mpr ⟨ha, hkind⟩
  have hmem := List.mem_of_mem_eraseP he
  obtain ⟨first, before, after, -, hfirst, hsplit, herased⟩ :=
    List.exists_of_eraseP (p := fun e => e.converts r.holder r.slot) hmem hconverts
  obtain ⟨hagent, hconvert⟩ := (converts_iff ..).mp hfirst
  rw [herased] at he
  have hapart := (h.claimFits hsplit).apart _ (List.mem_map_of_mem he) (ha.trans hagent.symm)
  obtain ⟨hextent, -⟩ := h.subject_eq hmem hr hkind
  obtain ⟨hextent', -⟩ := h.subject_eq (e := first) (by simp [hsplit]) hr hconvert
  change e.extent.overlaps first.extent = false at hapart
  rw [← hextent, ← hextent', overlaps_self (h.extents r hr)] at hapart
  cases hapart

/-- No CONVERT of a RECALLING record waits. -/
theorem noneConverts_recalling {s : State} {r : GrantRecord} {rc : RecallRecord} (h : LeasesSound s)
    (hr : r ∈ s.grantTable.records) (hrc : r.recallRecord = some rc) : NoneConverts s.waitList r := by
  intro e he _ hkind
  obtain ⟨-, hheld⟩ := h.subject_eq he hr hkind
  exact absurd (hheld.symm.trans hrc) (by simp)

/-- A record is recalled, the CONVERTs of it being gone, and its holder's send list changes. -/
theorem recalled_moves (s : State) {r : GrantRecord} (rc : RecallRecord) (f : List RecallMessage → List RecallMessage)
    {l : List WaitEntry} (hr : r ∈ s.grantTable.records) (hl : l.Sublist s.waitList)
    (hclear : LeasesSound s → NoneConverts l r) :
    Moves s (((s.setWaitList l).modRecord r.slot fun x => x.withRecall (some rc)).modSendList r.holder f) := by
  refine .trans (.single (.recalled hl hr hclear)) (holderSendList_moves (r := r.withRecall (some rc)) _ ?_ f)
  exact List.mem_map.mpr ⟨r, hr, if_pos rfl⟩

theorem issueRecall_moves (s : State) {r : GrantRecord} (hr : r ∈ s.grantTable.records) (wanted : Wanted)
    (cause : RecallCause) : Moves s (s.issueRecall r wanted cause) := by
  unfold State.issueRecall
  extract_lets rc s1 s2 s3
  have hrecalled := recalled_moves s rc (fun l => l ++ [r.message wanted 1]) hr List.eraseP_sublist
    (noneConverts_eraseP · hr)
  have hcounted := (modCounters_quiet s2 r.holder AgentCounters.addRecall).setWaitList
    (s.waitList.eraseP fun e => e.converts r.holder r.slot)
  exact hrecalled.trans (hcounted.trans (dropConvert_quiet s3 ..)).moves

theorem escalateRecall_moves (s : State) {r : GrantRecord} {rc : RecallRecord} (hr : r ∈ s.grantTable.records)
    (hrc : r.recallRecord = some rc) (cause : RecallCause) : Moves s (s.escalateRecall r rc cause) :=
  recalled_moves s _ _ hr (List.Sublist.refl _) (noneConverts_recalling · hr hrc)

theorem resendRecall_moves (s : State) {r : GrantRecord} {rc : RecallRecord} (hr : r ∈ s.grantTable.records)
    (hrc : r.recallRecord = some rc) : Moves s (s.resendRecall r rc) :=
  recalled_moves s _ _ hr (List.Sublist.refl _) (noneConverts_recalling · hr hrc)

theorem recordAt_mem {s : State} {slot : Nat} {r : GrantRecord} (h : s.recordAt slot = some r) :
    r ∈ s.grantTable.records := List.mem_of_find?_eq_some h

theorem requestRecall_moves (s : State) (slot : Nat) (wanted : Wanted) (cause : RecallCause) :
    Moves s (s.requestRecall slot wanted cause) := by
  unfold State.requestRecall
  split
  · exact .refl
  · rename_i r hr
    split
    · exact issueRecall_moves s (recordAt_mem hr) ..
    · rename_i rc hrc
      split
      · exact escalateRecall_moves s (recordAt_mem hr) hrc _
      · exact .refl

theorem recallConflicts_moves (s : State) (c : Claim) : Moves s (s.recallConflicts c) :=
  foldl_moves (fun _ _ => requestRecall_moves ..) _ s

/-! ## Wait List (Chapter 2) -/

/-- A claim that nothing stands in the way of conflicts with no record and finds room (R36). -/
theorem obstacle_none {s : State} {ahead : List WaitEntry} {c : Claim} (h : s.obstacle ahead c = none) :
    s.conflicting c = [] ∧ s.hasRoom c = true := by
  unfold State.obstacle at h
  split at h
  · cases h
  · split at h
    · cases h
    · split at h
      · cases h
      · rename_i hfree
        split at h
        · cases h
        · rename_i hroom
          exact ⟨by simpa using hfree, by simpa using hroom⟩

theorem grant_quiet (s : State) (c : Claim) (tag epoch : Nat) : Quiet (tableGrant s c epoch) (s.grant c tag epoch) := by
  unfold State.grant tableGrant
  cases c.kind with
  | acquire => exact (placeReply_quiet ..).trans (modCounters_quiet ..)
  | convert slot => exact (placeReply_quiet ..).trans (modCounters_quiet ..)

/-- A claim that fits and that nothing stands in the way of is granted. -/
theorem grant_moves {s : State} {ahead l : List WaitEntry} {c : Claim} {epoch : Nat} (tag : Nat)
    (hl : l.Sublist s.waitList) (hfits : LeasesSound s → ClaimFits (s.setWaitList l) c)
    (hactive : SessionLaw s → ActiveUnder s c.agent epoch) (h : s.obstacle ahead c = none) :
    Moves s ((s.setWaitList l).grant c tag epoch) := by
  obtain ⟨hfree, hroom⟩ := obstacle_none h
  exact .trans (.single (.granted hl hfits hactive hfree hroom)) (grant_quiet ..).moves

theorem appendEntry_moves {s : State} {c : Claim} {epoch : Nat} (tag maxWait : Nat) (o : Obstacle)
    (hfits : LeasesSound s → ClaimFits s c) (hactive : SessionLaw s → ActiveUnder s c.agent epoch) :
    Moves s (s.appendEntry c tag epoch maxWait o) := by
  have hjoins : ∀ state, Moves s (s.setWaitList
      (s.waitList ++ [c.entry tag epoch (s.timeBase + maxWait) state])) := fun state =>
    .single (.entryJoins hfits hactive)
  unfold State.appendEntry
  dsimp only
  split
  · exact (hjoins _).trans (recallConflicts_moves ..)
  · exact hjoins _

theorem admission_moves {s : State} {c : Claim} {epoch : Nat} (tag maxWait : Nat)
    (hfits : LeasesSound s → ClaimFits s c) (hactive : SessionLaw s → ActiveUnder s c.agent epoch) :
    Moves s (s.admission c tag epoch maxWait) := by
  cases hobstacle : s.obstacle s.waitList c with
  | none =>
    rw [admission_granted hobstacle]
    exact grant_moves tag (List.Sublist.refl _) hfits hactive hobstacle
  | some o =>
    rw [admission_blocked hobstacle]
    split
    · exact (refuse_quiet ..).moves
    · split
      · exact (refuse_quiet ..).moves
      · split
        · exact (refuse_quiet ..).moves
        · exact appendEntry_moves tag maxWait o hfits hactive

theorem map_entryTerms_modify (l : List WaitEntry) (place : Nat) (state : EntryState) :
    (l.modify place fun e => { e with state := state }).map entryTerms = l.map entryTerms := by
  refine List.ext_getElem? fun i => ?_
  rw [List.getElem?_map, List.getElem?_map, List.getElem?_modify, Option.map_eq_map, Option.map_map]
  congr 1
  funext e
  dsimp only [Function.comp]
  split <;> rfl

theorem setEntryState_moves (s : State) (place : Nat) (state : EntryState) :
    Moves s (s.setEntryState place state) :=
  .single (.entries (map_entryTerms_modify s.waitList place state ▸ List.Sublist.refl _))

/-- The Wait List around the entry at a place. -/
theorem split_at_place {l : List WaitEntry} {place : Nat} {e : WaitEntry} (h : l[place]? = some e) :
    l = l.take place ++ e :: l.drop (place + 1) ∧ l.eraseIdx place = l.take place ++ l.drop (place + 1) := by
  obtain ⟨hlt, rfl⟩ := List.getElem?_eq_some_iff.mp h
  exact ⟨by rw [List.cons_getElem_drop_succ, List.take_append_drop], List.eraseIdx_eq_take_drop_succ ..⟩

/-- The entry at a place is granted and leaves. -/
theorem visitGrant_moves {s : State} {place : Nat} {e : WaitEntry} (he : s.waitList[place]? = some e)
    (h : s.obstacle (s.waitList.take place) e.claim = none) :
    Moves s ((s.setWaitList (s.waitList.eraseIdx place)).grant e.claim e.tag e.epoch) := by
  obtain ⟨hsplit, herased⟩ := split_at_place he
  refine grant_moves _ (List.eraseIdx_sublist ..) (fun hs => herased ▸ hs.claimFits hsplit) (fun hs => ?_) h
  obtain ⟨-, hentries, -⟩ := hs
  exact hentries e (List.mem_of_getElem? he)

theorem visitEntry_moves {s : State} {place : Nat} {e : WaitEntry} (he : s.waitList[place]? = some e) :
    Moves s (s.visitEntry place e).1 := by
  unfold State.visitEntry
  split
  · rename_i hnone
    exact visitGrant_moves he hnone
  · exact setEntryState_moves ..
  · exact .refl
  · exact setEntryState_moves ..
  · exact .refl
  · exact (setEntryState_moves ..).trans (recallConflicts_moves ..)
  · exact .refl
  · exact setEntryState_moves ..

theorem walkFrom_moves : ∀ (fuel place : Nat) (s : State), Moves s (State.walkFrom fuel place s)
  | 0, _, _ => .refl
  | fuel + 1, place, s => by
    unfold State.walkFrom
    split
    · exact .refl
    · rename_i e he
      exact (visitEntry_moves he).trans (walkFrom_moves fuel ..)

theorem reevaluate_moves (s : State) : Moves s s.reevaluate := walkFrom_moves ..

theorem expelEntry_moves (s : State) (a : AgentId) (tag : Nat) (code : RefusalCode) :
    Moves s (s.expelEntry a tag code) :=
  ((setWaitList_moves s List.eraseP_sublist).trans (refuse_quiet ..).moves).trans (reevaluate_moves _)

/-! ## Removal (R21) -/

/-- `s` less the record `r` and its waiting RECALL, with `l` for Wait List. -/
def withoutRecord (s : State) (l : List WaitEntry) (r : GrantRecord) : State :=
  { (s.setWaitList l).setRecords (s.grantTable.records.filter fun q => q.slot ≠ r.slot) with
    sendLists := withdrawn s r r.recallRecord.isSome }

theorem withdrawn_ne_nil {s : State} {r : GrantRecord} {gone : Bool} {a : AgentId}
    (h : (withdrawn s r gone).get a ≠ []) : s.sendList a ≠ [] := by
  intro hnil
  refine h ?_
  have hget : s.sendLists.get a = [] := hnil
  unfold withdrawn
  split
  · rw [PerAgent.get_set]
    split
    · rename_i he
      rw [← he, hnil, List.filter_nil]
    · exact hget
  · exact hget

theorem withoutRecord_moves {s : State} {l : List WaitEntry} {r : GrantRecord} (hl : l.Sublist s.waitList)
    (hclear : LeasesSound s → ∀ q ∈ s.grantTable.records, q.slot = r.slot → NoneConverts l q) :
    Moves s (withoutRecord s l r) := by
  refine .trans (.single (.recordsLeave (k := s.grantTable.records.filter fun q => q.slot ≠ r.slot) hl
    List.filter_sublist fun hs q hq hgone => hclear hs q hq ?_)) (.single (.messages fun a ha => .inl ?_))
  · by_contra hslot
    exact hgone (List.mem_filter.mpr ⟨hq, by simpa using hslot⟩)
  · exact withdrawn_ne_nil ha

theorem resolvedSweep_none {s : State} (h : s.sweep = none) (how : Resolution) (n : Nat) (left : List GrantRecord) :
    (resolvedSweep s how n left).1 = none := by
  unfold resolvedSweep
  rw [h]

/-- Steps 1 to 3 of R21 do no more to the tables. -/
theorem detachRecord_quiet (s : State) (cause : RemovalCause) (r : GrantRecord) :
    Quiet (withoutRecord s s.waitList r) (s.detachRecord cause r) := by
  rw [detachRecord_eq]
  exact { sweep := fun h => resolvedSweep_none h .. }

theorem releaseRecord_moves {s : State} {r : GrantRecord} (hr : r ∈ s.grantTable.records) :
    Moves s (s.removeRecord .release r) := by
  have hwithout := withoutRecord_moves (r := r)
    (List.eraseP_sublist (p := fun e => e.converts r.holder r.slot) (l := s.waitList)) fun hs q hq hslot => by
      obtain rfl := slot_unique hs.index.2.1 hq hr hslot
      exact noneConverts_eraseP hs hr
  have hquiet := (detachRecord_quiet s .release r).trans (recordOutcome_quiet _ r.holder (releaseOutcome r))
  refine hwithout.trans (((hquiet.setWaitList _).trans ?_).moves)
  have hdrop := dropConvert_quiet ((s.detachRecord .release r).recordOutcome r.holder (releaseOutcome r)) r.holder
    r.slot .grantLost
  rw [hquiet.waitList] at hdrop
  exact hdrop

theorem removeRecords_eq_foldl (s : State) {cause : RemovalCause} (hc : cause ≠ .release) (a : AgentId) :
    s.removeRecords cause a = (s.recordsOf a).foldl (fun t r => t.detachRecord cause r) s := by
  cases cause with
  | release => exact absurd rfl hc
  | leave => rfl
  | fencing => rfl

theorem detachRecord_records (s : State) (cause : RemovalCause) (r : GrantRecord) :
    (s.detachRecord cause r).grantTable.records = s.grantTable.records.filter fun q => q.slot ≠ r.slot := by
  rw [detachRecord_eq]

/-- Records removed one after the other: what is left was there, in another slot than theirs. -/
theorem mem_foldl_detach {cause : RemovalCause} {q : GrantRecord} : ∀ {l : List GrantRecord} {s : State},
    q ∈ (l.foldl (fun t r => t.detachRecord cause r) s).grantTable.records →
    q ∈ s.grantTable.records ∧ ∀ r ∈ l, q.slot ≠ r.slot
  | [], _, h => ⟨h, by simp⟩
  | r :: l, s, h => by
    obtain ⟨hleft, hrest⟩ := mem_foldl_detach (l := l) (s := s.detachRecord cause r) h
    rw [detachRecord_records] at hleft
    obtain ⟨hold, hslot⟩ := List.mem_filter.mp hleft
    exact ⟨hold, List.forall_mem_cons.mpr ⟨by simpa using hslot, hrest⟩⟩

theorem foldl_detach_frame {cause : RemovalCause} : ∀ (l : List GrantRecord) (s : State),
    (l.foldl (fun t r => t.detachRecord cause r) s).waitList = s.waitList ∧
    (l.foldl (fun t r => t.detachRecord cause r) s).sessions = s.sessions
  | [], _ => ⟨rfl, rfl⟩
  | r :: l, s => by
    obtain ⟨hwait, hsessions⟩ := foldl_detach_frame (cause := cause) l (s.detachRecord cause r)
    rw [detachRecord_eq] at hwait hsessions
    rw [List.foldl_cons, detachRecord_eq]
    exact ⟨hwait, hsessions⟩

/-- The records of an agent with no entry are removed one after the other. A slot that is passed holds nothing. -/
theorem foldl_detach_moves {a : AgentId} {cause : RemovalCause} : ∀ (l : List GrantRecord) (s : State),
    (∀ e ∈ s.waitList, e.agent ≠ a) → (∀ r ∈ l, r.holder = a) →
    (∀ r ∈ l, r ∈ s.grantTable.records ∨ ∀ q ∈ s.grantTable.records, q.slot ≠ r.slot) →
    Moves s (l.foldl (fun t r => t.detachRecord cause r) s)
  | [], _, _, _, _ => .refl
  | r :: l, s, hentries, hholder, hthere => by
    have hdetach : Moves s (s.detachRecord cause r) := by
      refine (withoutRecord_moves (List.Sublist.refl _) fun hs q hq hslot e he ha => ?_).trans
        (detachRecord_quiet s cause r).moves
      rcases hthere r List.mem_cons_self with hr | hnone
      · obtain rfl := slot_unique hs.index.2.1 hq hr hslot
        exact absurd (ha.trans (hholder q List.mem_cons_self)) (hentries e he)
      · exact absurd hslot (hnone q hq)
    refine hdetach.trans (foldl_detach_moves l _ ?_ (fun q hq => hholder q (List.mem_cons_of_mem r hq))
      fun q hq => ?_)
    · rw [detachRecord_eq]
      exact hentries
    · rw [detachRecord_records]
      simp only [List.mem_filter, decide_eq_true_eq]
      rcases hthere q (List.mem_cons_of_mem r hq) with hin | hnone
      · by_cases hslot : q.slot = r.slot
        · exact .inr fun p hp => hslot ▸ hp.2
        · exact .inl ⟨hin, hslot⟩
      · exact .inr fun p hp => hnone p hp.1

/-- Every record of an agent with no entry is removed (R25), and neither the Wait List nor a session is touched. -/
theorem removeRecords_moves {s : State} {cause : RemovalCause} {a : AgentId} (hc : cause ≠ .release)
    (hentries : ∀ e ∈ s.waitList, e.agent ≠ a) :
    Moves s (s.removeRecords cause a) ∧ (∀ r ∈ (s.removeRecords cause a).grantTable.records, r.holder ≠ a) ∧
    (s.removeRecords cause a).waitList = s.waitList ∧ (s.removeRecords cause a).sessions = s.sessions := by
  have hof : ∀ r ∈ s.recordsOf a, r ∈ s.grantTable.records ∧ r.holder = a := fun r hr => by
    simpa [State.recordsOf] using hr
  rw [removeRecords_eq_foldl s hc]
  refine ⟨foldl_detach_moves _ s hentries (fun r hr => (hof r hr).2) (fun r hr => .inl (hof r hr).1),
    fun r hr hholder => ?_, foldl_detach_frame ..⟩
  obtain ⟨hold, hslot⟩ := mem_foldl_detach hr
  exact hslot r (by simpa [State.recordsOf] using ⟨hold, hholder⟩) rfl

/-! ## Downgrade (R23) -/

theorem downgradeRecord_moves (s : State) (r : GrantRecord) : Moves s (s.downgradeRecord r) := by
  unfold State.downgradeRecord
  extract_lets satisfied leavesPending s1 s2 s3
  have h1 : Moves s s1 := by
    refine .single (.eased fun q => ?_)
    split
    · exact { mode := fun _ => rfl, recallRecord := fun h => by dsimp only; split <;> [rfl; exact h] }
    · exact {}
  have h2 : Moves s s2 := by
    unfold s2
    split
    · exact h1.trans (modSendList_moves _ _ rfl)
    · exact h1
  have h3 : Moves s s3 := by
    unfold s3
    split
    · exact h2.trans (resolvePending_quiet ..).moves
    · exact h2
  split
  · exact h3.trans (recordOutcome_quiet ..).moves
  · exact h3

/-! ## The end of a session (R83, R85, R93) -/

theorem removeEntries_moves (s : State) (a : AgentId) : Moves s (s.removeEntries a) :=
  setWaitList_moves s List.filter_sublist

theorem removeEntries_none (s : State) (a : AgentId) : ∀ e ∈ (s.removeEntries a).waitList, e.agent ≠ a := by
  simp [State.removeEntries]

theorem refuseEntries_sessions (s : State) (l : List WaitEntry) (code : RefusalCode) :
    (s.refuseEntries l code).sessions = s.sessions := by
  induction l generalizing s with
  | nil => rfl
  | cons e l ih => exact ih _

/-- The steps that a LEAVE and a JOIN while ACTIVE share leave nothing of the agent and keep every session. -/
theorem endSession_moves (s : State) (a : AgentId) :
    Moves s (s.endSession a) ∧ NothingOf (s.endSession a) a ∧ (s.endSession a).sessions = s.sessions := by
  have hquiet := refuseEntries_quiet (s.removeEntries a) (s.entriesOf a) .sessionEnded
  have hentries : ∀ e ∈ ((s.removeEntries a).refuseEntries (s.entriesOf a) .sessionEnded).waitList, e.agent ≠ a :=
    hquiet.waitList ▸ removeEntries_none s a
  obtain ⟨hmoves, hrecords, hwait, hsessions⟩ := removeRecords_moves (cause := .leave) (by simp) hentries
  refine ⟨?_, ⟨hrecords, fun e he => hentries e (hwait ▸ he), ?_⟩, hsessions.trans (refuseEntries_sessions ..)⟩
  · exact (((removeEntries_moves s a).trans hquiet.moves).trans hmoves).trans (modSendList_moves _ a rfl)
  · exact State.modSendList_sendList_self ..

theorem fenceSteps_moves (s : State) (a : AgentId) (cause : FenceCause) :
    Moves s (s.fenceSteps a cause) ∧ ((s.fenceSteps a cause).session a).state = .fenced := by
  unfold State.fenceSteps
  extract_lets epoch s1 s2 s3 s4 s5 s6 s7 s8
  obtain ⟨hmoves, hrecords, hwait, -⟩ := removeRecords_moves (s := s2) (cause := .fencing) (a := a) (by simp)
    (removeEntries_none s a)
  have h4 : Moves s s4 :=
    (((removeEntries_moves s a).trans (modLink_quiet ..).moves).trans hmoves).trans (modSendList_moves s3 a rfl)
  have hnothing : NothingOf s4 a :=
    ⟨hrecords, fun e he => removeEntries_none s a e (hwait ▸ he), State.modSendList_sendList_self ..⟩
  have h5 : Moves s s5 := h4.trans (.single (.sessionEnds rfl rfl hnothing))
  have hquiet : Quiet s5 (s8.report (.fenced a cause epoch (s.recordsOf a).length (s.entriesOf a).length)) :=
    (((modMember_quiet ..).trans (modLink_quiet ..)).trans (placeNotice_quiet ..)).trans (report_quiet ..)
  exact ⟨h5.trans hquiet.moves, congrArg Session.state (State.modSession_session_self s4 a _)⟩

theorem fence_moves (s : State) (a : AgentId) (cause : FenceCause) : Moves s (s.fence a cause) :=
  (fenceSteps_moves s a cause).1.trans (reevaluate_moves _)

end Sys2Proof.Laws
end

section
/-!
SUPPORT. Every command but POWER_ON and CONFIGURE is a run of moves, and what those two do; what a directory in
UNCONFIGURED answers.
-/

namespace Sys2Proof.Laws

-- One lemma at a time: checked at once, so many would start more threads than the memory limit of check.sh allows.
set_option Elab.async false

open Sys2Proof.Machine Sys2Proof.Safety

/-! ## What the tests of a request tell -/

theorem inSession_of_check {s : State} {a : AgentId} {epoch : Nat} (h : s.sessionCheck a epoch = none) :
    InSession s a epoch := by
  unfold State.sessionCheck at h
  split at h
  · cases h
  · rename_i hconfigured
    split at h
    · cases h
    · cases h
    · rename_i d hd
      split at h
      · cases h
      · rename_i hepoch
        exact ⟨hconfigured, by simp [hd, isActive], not_not.mp hepoch⟩

theorem activeUnder_of_inSession {s : State} {a : AgentId} {epoch : Nat} (h : InSession s a epoch) :
    ActiveUnder s a epoch := (activeUnder_iff ..).mpr ⟨h.2.1, h.2.2.symm⟩

/-- An ACQUIRE that its field checks do not refuse fits (R3, R6). -/
theorem acquire_fits {s : State} {a : AgentId} {tag : Nat} {q : AcquireFields} (h : s.acquireRefusal a tag q = none) :
    ClaimFits s (acquireClaim a q) := by
  unfold State.acquireRefusal at h
  split at h
  · cases h
  · split at h
    · cases h
    · rename_i hvalid
      split at h
      · cases h
      · rename_i hself
        obtain ⟨hrecords, hentries⟩ := (selfOverlaps_false s a q.extent).mp (by simpa using hself)
        refine ⟨⟨fun r hr ha hover => ?_, by simp [acquireClaim], by simpa [acquireClaim] using hvalid⟩, ?_⟩
        · exact absurd hover (by simp [acquireClaim, hrecords r hr ha.symm])
        · exact List.forall_mem_map.mpr fun e he ha => overlaps_comm q.extent _ ▸ hentries e he ha

theorem lookup_some {s : State} {a : AgentId} {t : Nat} {r : GrantRecord} (h : s.lookup a t = some r) :
    Cites s a t r := by
  have hr := List.mem_of_find?_eq_some h
  have hp := List.find?_some h
  simp only [Bool.and_eq_true, decide_eq_true_eq] at hp
  obtain ⟨⟨htoken, hholder⟩, hepoch⟩ := hp
  exact ⟨hr, htoken, hholder, hepoch⟩

/-- A CONVERT to EXCLUSIVE of a HELD, SHARED record with no other CONVERT of it waiting fits (R6, R47). -/
theorem convert_fits {s : State} {r : GrantRecord} (h : LeasesSound s) (hr : r ∈ s.grantTable.records)
    (hshared : r.mode = .shared) (hheld : r.recallRecord = none)
    (hnone : ∀ e ∈ s.waitList, e.agent = r.holder → e.kind ≠ .convert r.slot) :
    ClaimFits s (convertClaim r.holder r) := by
  refine ⟨⟨fun q hq ha hover => ?_, fun slot hkind => ?_, h.extents r hr⟩, List.forall_mem_map.mpr fun e he ha => ?_⟩
  · by_contra hne
    have hrq : r ≠ q := fun he => hne (he ▸ rfl)
    obtain ⟨-, -, hother⟩ := noConflict_compatible h.noConflict hr hq hrq hover
    exact hother ha
  · obtain rfl : r.slot = slot := RequestKind.convert.inj hkind
    exact ⟨rfl, r, hr, rfl, rfl, rfl, hshared, hheld⟩
  · by_contra hover
    rw [Bool.not_eq_false] at hover
    exact hnone e he ha ((h.claims _ (List.mem_map_of_mem he)).clear r hr ha hover)

/-! ## Answerable frames -/

theorem onAnswerable_moves {a : AgentId} {act : State → Frame AnswerableKind → State} (h : ∀ t f, Moves t (act t f))
    (s : State) (k : AnswerableKind) : Moves s (s.onAnswerable a k act) := by
  rcases onAnswerable_cases s a k act with ⟨-, hidle⟩ | ⟨f, rest, -, htaken⟩
  · rw [hidle]
  · rw [htaken]
    exact (afterTakingAnswerable_quiet ..).moves.trans (h ..)

theorem startSession_moves {s : State} {a : AgentId} (tag window : Nat)
    (hflag : EpochLaw s → (s.session a).admitFlag = true) (hfresh : SessionLaw s → NothingOf s a) :
    Moves s (s.startSession a tag window) := by
  unfold State.startSession
  extract_lets epoch s1 s2
  have hstarts : Moves s s1 := .single (.sessionStarts rfl hflag hfresh)
  exact hstarts.trans ((modLink_quiet s1 a _).trans (placeReply_quiet s2 ..)).moves

/-- An agent whose session is not ACTIVE has nothing in the tables. -/
theorem nothingOf_inactive {s : State} {a : AgentId} (h : SessionLaw s) (ha : isActive (s.session a).state = false) :
    NothingOf s a := by
  obtain ⟨hrecords, hentries, hmessages⟩ := h
  have hnot : ∀ epoch, ¬ActiveUnder s a epoch := fun epoch hactive =>
    absurd ((activeUnder_iff ..).mp hactive).1 (by simp [ha])
  exact ⟨fun r hr he => hnot _ (he ▸ hrecords r hr), fun e he hagent => hnot _ (hagent ▸ hentries e he),
    by_contra fun hne => hnot _ (hmessages a hne)⟩

/-- A JOIN that none of its tests refuses finds a configured directory and a session that is ACTIVE, or OFFLINE and
admitted (R81). -/
theorem joinRefusal_none {s : State} {a : AgentId} {tag : Nat} {window : Option Nat}
    (h : s.joinRefusal a tag window = none) : s.management.state ≠ .unconfigured ∧
    ((∃ d, (s.session a).state = .active d) ∨
      (s.session a).state = .offline ∧ (s.session a).admitFlag = true) := by
  unfold State.joinRefusal at h
  split at h
  · cases h
  · rename_i hconfigured
    split at h
    · cases h
    · rename_i hfenced
      split at h
      · cases h
      · rename_i hadmitted
        refine ⟨hconfigured, ?_⟩
        cases hstate : (s.session a).state with
        | offline => exact .inr ⟨rfl, by simpa [hstate] using hadmitted⟩
        | active d => exact .inl ⟨d, rfl⟩
        | fenced => exact absurd hstate hfenced

theorem acceptJoin_moves {s : State} {a : AgentId} (tag window : Nat)
    (h : (∃ d, (s.session a).state = .active d) ∨
      (s.session a).state = .offline ∧ (s.session a).admitFlag = true) : Moves s (s.acceptJoin a tag window) := by
  unfold State.acceptJoin
  rcases h with ⟨d, hd⟩ | ⟨hoffline, hadmitted⟩
  · simp only [hd]
    obtain ⟨hends, hnothing, hsessions⟩ := endSession_moves s a
    have hsession : (s.endSession a).session a = s.session a := by rw [State.session, hsessions]; rfl
    refine (hends.trans (startSession_moves tag window (fun hepoch => ?_) fun _ => hnothing)).trans
      (reevaluate_moves _)
    exact ((hepoch a).2 d (hsession ▸ hd)).2
  · simp only [hoffline]
    exact startSession_moves tag window (fun _ => hadmitted) fun hs =>
      nothingOf_inactive hs (by simp [hoffline, isActive])

theorem handleJoin_moves (a : AgentId) (s : State) (f : Frame AnswerableKind) :
    Moves s (State.handleJoin a s f) := by
  unfold State.handleJoin
  split
  · exact (refuse_quiet ..).moves
  · rename_i hpass
    exact acceptJoin_moves _ _ (joinRefusal_none hpass).2

theorem handleAcquire_moves (a : AgentId) (s : State) (f : Frame AnswerableKind) :
    Moves s (State.handleAcquire a s f) := by
  unfold State.handleAcquire
  split
  · exact (refuse_quiet ..).moves
  · rename_i hsession
    split
    · exact (refuse_quiet ..).moves
    · split
      · exact (refuse_quiet ..).moves
      · rename_i hpass
        exact admission_moves _ _ (fun _ => acquire_fits hpass) fun _ =>
          activeUnder_of_inSession (inSession_of_check hsession)

theorem convertUp_moves {s : State} {a : AgentId} {epoch : Nat} {r : GrantRecord} (tag maxWait : Nat)
    (hr : r ∈ s.grantTable.records) (hholder : r.holder = a) (hshared : r.mode = .shared)
    (hnone : ∀ e ∈ s.waitList, e.agent = a → e.kind ≠ .convert r.slot) (hactive : ActiveUnder s a epoch) :
    Moves s (s.convertUp a tag epoch maxWait r) := by
  subst hholder
  unfold State.convertUp
  split
  · exact (refuse_quiet ..).moves
  · rename_i hheld
    exact admission_moves _ _ (fun hs => convert_fits hs hr hshared (by simpa using hheld) hnone) fun _ => hactive

theorem convertSubject_moves {s : State} {a : AgentId} {epoch : Nat} (tag : Nat) (q : ConvertFields)
    (hactive : ActiveUnder s a epoch) : Moves s (s.convertSubject a tag epoch q) := by
  unfold State.convertSubject
  split
  · exact (refuse_quiet ..).moves
  · rename_i r hlookup
    obtain ⟨hr, -, hholder, -⟩ := lookup_some hlookup
    split
    · exact (refuse_quiet ..).moves
    · rename_i hmode
      split
      · exact (refuse_quiet ..).moves
      · rename_i hnone
        cases hq : q.mode with
        | shared => exact ((downgradeRecord_moves ..).trans (reevaluate_moves _)).trans (placeReply_quiet ..).moves
        | exclusive =>
          have hshared : r.mode = .shared := by
            cases hr : r.mode with
            | shared => rfl
            | exclusive => exact absurd (hq.trans hr.symm) hmode
          exact convertUp_moves tag _ hr hholder hshared ((converts_any ..).mp (by simpa using hnone)) hactive

theorem handleConvert_moves (a : AgentId) (s : State) (f : Frame AnswerableKind) :
    Moves s (State.handleConvert a s f) := by
  unfold State.handleConvert
  split
  · exact (refuse_quiet ..).moves
  · rename_i hsession
    split
    · exact (refuse_quiet ..).moves
    · split
      · exact convertSubject_moves _ _ (activeUnder_of_inSession (inSession_of_check hsession))
      · exact (refuse_quiet ..).moves

theorem handleQuery_moves (a : AgentId) (s : State) (f : Frame AnswerableKind) :
    Moves s (State.handleQuery a s f) := by
  unfold State.handleQuery
  split
  · exact (refuse_quiet ..).moves
  · split
    · exact (refuse_quiet ..).moves
    · split
      · exact (refuse_quiet ..).moves
      · split
        · exact (refuse_quiet ..).moves
        · exact (placeReply_quiet ..).moves

theorem leaveSession_moves (s : State) (a : AgentId) (tag : Nat) : Moves s (s.leaveSession a tag) := by
  obtain ⟨hends, ⟨hrecords, hentries, hmessages⟩, -⟩ := endSession_moves s a
  have hnothing : NothingOf ((s.endSession a).placeReply a tag .left) a := ⟨hrecords, hentries, hmessages⟩
  have hoffline : Moves _ (((s.endSession a).placeReply a tag .left).modSession a fun x => { x with state := .offline }) :=
    .single (.sessionEnds rfl rfl hnothing)
  exact ((hends.trans (placeReply_quiet ..).moves).trans hoffline).trans (reevaluate_moves _)

theorem handleLeave_moves (a : AgentId) (s : State) (f : Frame AnswerableKind) :
    Moves s (State.handleLeave a s f) := by
  unfold State.handleLeave
  split
  · exact (refuse_quiet ..).moves
  · split
    · exact (refuse_quiet ..).moves
    · exact leaveSession_moves ..

/-! ## Closing frames -/

theorem closingChecks_moves {a : AgentId} {act : State → Frame ClosingKind → State} (h : ∀ t f, Moves t (act t f))
    (s : State) (f : Frame ClosingKind) : Moves s (State.closingChecks a act s f) := by
  unfold State.closingChecks
  split
  · exact (modCounters_quiet ..).moves
  · split
    · exact (modCounters_quiet ..).moves
    · exact (modCounters_quiet ..).moves
    · split
      · exact (protocolError_quiet ..).moves
      · split
        · exact (protocolError_quiet ..).moves
        · exact h s f

theorem onClosing_moves {a : AgentId} {act : State → Frame ClosingKind → State} (h : ∀ t f, Moves t (act t f))
    (s : State) (k : ClosingKind) : Moves s (s.onClosing a k act) := by
  rcases onClosing_cases s a k act with ⟨-, hidle⟩ | ⟨f, rest, -, htaken⟩
  · rw [hidle]
  · rw [htaken]
    exact (afterTakingClosing_quiet ..).moves.trans (closingChecks_moves h ..)

theorem handleRelease_moves (a : AgentId) (s : State) (f : Frame ClosingKind) :
    Moves s (State.handleRelease a s f) := by
  unfold State.handleRelease
  split
  · exact (protocolError_quiet ..).moves
  · rename_i hlookup
    obtain ⟨hr, -⟩ := lookup_some hlookup
    exact (releaseRecord_moves hr).trans (reevaluate_moves _)

theorem handleDowngrade_moves (a : AgentId) (s : State) (f : Frame ClosingKind) :
    Moves s (State.handleDowngrade a s f) := by
  unfold State.handleDowngrade
  split
  · exact (protocolError_quiet ..).moves
  · split
    · exact (modCounters_quiet ..).moves
    · exact (downgradeRecord_moves ..).trans (reevaluate_moves _)

theorem handleCancel_moves (a : AgentId) (s : State) (f : Frame ClosingKind) :
    Moves s (State.handleCancel a s f) := by
  unfold State.handleCancel
  split
  · exact (modCounters_quiet ..).moves
  · exact expelEntry_moves ..

/-! ## Sweep steps (R106) -/

theorem sweepRecall_moves (s : State) (slot : Nat) (wanted : Wanted) : Moves s (s.sweepRecall slot wanted) := by
  have hpending : Moves (s.requestRecall slot wanted .sweep)
      ((s.requestRecall slot wanted .sweep).modRecord slot fun x => { x with sweepPending := true }) :=
    .single (.eased fun r => by split <;> exact {})
  exact ((requestRecall_moves ..).trans hpending).trans (modSweep_quiet ..).moves

theorem sweepAction_moves (s : State) (kind : SweepKind) (r : GrantRecord) : Moves s (s.sweepAction kind r) := by
  unfold State.sweepAction
  split
  · exact sweepRecall_moves ..
  · exact sweepRecall_moves ..
  · exact .refl
  · exact .refl

theorem sweepReach_moves (s : State) (w : Sweep) (r : GrantRecord) : Moves s (s.sweepReach w r) := by
  have hcursor := modSweep_quiet s fun w => { w with phase := .scanning (.after r.extent.start r.slot) }
  unfold State.sweepReach
  dsimp only
  split
  · exact (hcursor.trans (modSweep_quiet ..)).moves.trans (sweepAction_moves ..)
  · exact hcursor.moves

theorem finishScan_moves (s : State) : Moves s s.finishScan :=
  ((modSweep_quiet ..).trans (completeIfDrained_quiet _)).moves

theorem walkAfterStep_moves {s t : State} (h : Moves s t) : Moves s (s.walkAfterStep t) := by
  unfold State.walkAfterStep
  split
  · exact h.trans (reevaluate_moves t)
  · exact h

theorem sweepOnce_moves (s : State) : Moves s s.sweepOnce := by
  unfold State.sweepOnce
  split
  · exact .refl
  · split
    · exact .refl
    · split
      · exact walkAfterStep_moves (finishScan_moves s)
      · split
        · exact walkAfterStep_moves (sweepReach_moves ..)
        · exact walkAfterStep_moves (finishScan_moves s)

theorem clearPending_moves (s : State) : Moves s s.clearPending := .single (.eased fun _ => {})

/-! ## Management commands (Chapter 8) -/

/-- What a command comes to: a refusal, or a run of moves from `s`. -/
def AnswerMoves (s : State) : Answer → Prop
  | .refuse _ => True
  | .done t _ => Moves s t

theorem answerMoves_done {s t : State} {result : MgmtResult} (h : Moves s t) : AnswerMoves s (.done t result) := h

/-- A test that refuses the command when it fails. -/
theorem answerMoves_if {s : State} {p : Prop} [Decidable p] {x : Answer} {status : Status}
    (h : p → AnswerMoves s x) : AnswerMoves s (if p then x else .refuse status) := by
  split
  · exact h ‹p›
  · trivial

/-- A test that refuses the command when it holds. -/
theorem answerMoves_unless {s : State} {p : Prop} [Decidable p] {x : Answer} {status : Status}
    (h : ¬p → AnswerMoves s x) : AnswerMoves s (if p then .refuse status else x) := by
  split
  · trivial
  · exact h ‹¬p›

theorem onCommand_moves {act : State → List Byte → Answer} (h : ∀ t body, AnswerMoves t (act t body)) (s : State)
    (k : CommandKind) : Moves s (s.onCommand k act) := by
  rcases onCommand_cases s k act with ⟨-, hidle⟩ | ⟨f, rest, -, htaken⟩
  · rw [hidle]
  · rw [htaken]
    have htaking := (afterTakingCommand_quiet s).moves
    have hact := h s.afterTakingCommand f.body
    cases hanswer : act s.afterTakingCommand f.body with
    | refuse status => exact htaking.trans (placeMgmtReply_quiet ..).moves
    | done t result =>
      rw [hanswer] at hact
      have hdone : Moves s.afterTakingCommand t := hact
      exact (htaking.trans hdone).trans (placeMgmtReply_quiet ..).moves

theorem onAgent_moves {act : State → AgentId → Answer} (h : ∀ t a, AnswerMoves t (act t a)) (s : State)
    (body : List Byte) : AnswerMoves s (State.onAgent act s body) := by
  unfold State.onAgent
  split
  · trivial
  · split
    · trivial
    · exact h ..

/-- A parameter other than V is set. -/
theorem setParams_moves (s : State) (f : Params → Params)
    (h : ∀ p, (f p).volume = p.volume := by intro _; rfl) :
    Moves s (s.setParams f) := Quiet.moves { volume := h s.params }

theorem setGroupParam_moves (s : State) (identifier selector value : Nat) :
    AnswerMoves s (s.setGroupParam identifier selector value) := by
  have hclear : ∀ g f, Moves s ((s.setGroup g f).clearGroupWindows g) := fun g f =>
    ((setChurn_quiet ..).trans (clearGroupWindows_quiet (s.setGroup g f) g)).moves
  unfold State.setGroupParam
  split
  · trivial
  · dsimp only
    split
    · exact answerMoves_if fun _ => hclear ..
    · exact answerMoves_if fun _ => hclear ..
    · exact answerMoves_if fun _ => hclear ..
    · exact answerMoves_if fun _ => (setChurn_quiet ..).moves

theorem setAgentGroup_moves (s : State) (selector value : Nat) : AnswerMoves s (s.setAgentGroup selector value) := by
  unfold State.setAgentGroup
  split
  · trivial
  · split
    · trivial
    · exact answerMoves_done ((modSession_quiet s _ {}).trans (modMember_quiet ..)).moves

theorem setOneParam_moves (s : State) (q : SetParamFields) : AnswerMoves s (s.setOneParam q) := by
  unfold State.setOneParam
  split
  · exact answerMoves_unless fun _ => answerMoves_unless fun huse =>
      answerMoves_done (.single (.volume rfl (by simpa using huse)))
  · exact answerMoves_if fun _ => setParams_moves s _
  · exact answerMoves_if fun _ => setParams_moves s _
  · exact answerMoves_if fun _ => setParams_moves s _
  · exact setGroupParam_moves ..
  · exact setGroupParam_moves ..
  · exact setGroupParam_moves ..
  · exact setGroupParam_moves ..
  · exact setAgentGroup_moves ..
  · trivial

theorem runSetParam_moves (s : State) (body : List Byte) : AnswerMoves s (s.runSetParam body) := by
  unfold State.runSetParam
  refine answerMoves_unless fun _ => ?_
  split
  · trivial
  · exact setOneParam_moves ..

theorem admitted_sameStanding (x : Session) : SameStanding x x.admitted := by
  have hstate : x.admitted.state = if x.state = .fenced then .offline else x.state := rfl
  refine ⟨rfl, ?_, ?_, fun _ _ => rfl⟩
  · rw [hstate]
    split
    · rename_i hfenced
      simp [hfenced, isActive]
    · rfl
  · intro hoffline
    simp [hstate, hoffline]

theorem runAdmit_moves (s : State) (a : AgentId) : AnswerMoves s (s.runAdmit a) :=
  answerMoves_done (modSession_quiet s a (admitted_sameStanding _)).moves

/-- `s` with agent `a`'s `admitFlag` cleared (R97). -/
def flagCleared (s : State) (a : AgentId) : State := s.modSession a fun x => { x with admitFlag := false }

/-- A removal does not read the sessions. -/
theorem detachRecord_flagCleared (s : State) (a : AgentId) (cause : RemovalCause) (r : GrantRecord) :
    (flagCleared s a).detachRecord cause r = flagCleared (s.detachRecord cause r) a := by
  rw [detachRecord_eq, detachRecord_eq]
  rfl

theorem removeRecords_flagCleared (s : State) (a : AgentId) :
    (flagCleared s a).removeRecords .fencing a = flagCleared (s.removeRecords .fencing a) a := by
  rw [removeRecords_eq_foldl _ (by simp), removeRecords_eq_foldl _ (by simp)]
  exact List.foldl_hom (flagCleared · a) fun t r => detachRecord_flagCleared ..

/-- EVICT's clearing of `admitFlag` and the steps of the fencing may be taken in either order (R97). -/
theorem fenceSteps_flagCleared (s : State) (a : AgentId) (cause : FenceCause) :
    (flagCleared s a).fenceSteps a cause = flagCleared (s.fenceSteps a cause) a := by
  unfold State.fenceSteps
  extract_lets epoch s1 s2 s3 s4 s5 s6 s7 s8 epoch' t1 t2 t3 t4 t5 t6 t7 t8
  have hepoch : epoch = epoch' := by simp [epoch, epoch', flagCleared]
  have h3 : s3 = flagCleared t3 a := removeRecords_flagCleared t2 a
  have h5 : s5 = flagCleared t5 a := by
    unfold s5 s4 t5 t4
    rw [h3]
    simp [flagCleared, State.modSession, State.purgeSendList, State.modSendList]
  unfold s8 s7 s6 t8 t7 t6
  rw [h5, hepoch]
  rfl

theorem runEvict_moves (s : State) (a : AgentId) : AnswerMoves s (s.runEvict a) := by
  obtain ⟨hfence, hfenced⟩ := fenceSteps_moves s a .evicted
  unfold State.runEvict
  dsimp only
  split
  · refine answerMoves_done ?_
    change Moves s ((flagCleared s a).fenceSteps a .evicted).reevaluate
    rw [fenceSteps_flagCleared]
    have hflag := modSession_quiet (s.fenceSteps a .evicted) a (f := fun x => { x with admitFlag := false })
      { flag := fun hactive => by simp [hfenced, isActive] at hactive }
    exact (hfence.trans hflag.moves).trans (reevaluate_moves _)
  · rename_i hinactive
    refine answerMoves_done (modSession_quiet s a { flag := fun hactive => ?_ }).moves
    obtain ⟨d, hd⟩ := (isActive_iff _).mp hactive
    exact absurd hd (hinactive d)

theorem runAckChurn_moves (s : State) (a : AgentId) : AnswerMoves s (s.runAckChurn a) :=
  answerMoves_done (modMember_quiet ..).moves

theorem runPause_moves (s : State) (body : List Byte) : AnswerMoves s (s.runPause body) := by
  unfold State.runPause
  exact answerMoves_unless fun _ => answerMoves_unless fun _ =>
    answerMoves_done (Quiet.moves { configured := fun h => by cases h })

theorem runResume_moves (s : State) (body : List Byte) : AnswerMoves s (s.runResume body) := by
  unfold State.runResume
  exact answerMoves_unless fun _ => answerMoves_unless fun _ =>
    answerMoves_done (Quiet.moves { configured := fun h => by cases h })

theorem runSweepStart_moves (s : State) (body : List Byte) : AnswerMoves s (s.runSweepStart body) := by
  unfold State.runSweepStart
  refine answerMoves_unless fun _ => ?_
  split
  · trivial
  · refine answerMoves_unless fun _ => ?_
    split
    · trivial
    · exact answerMoves_unless fun _ => answerMoves_unless fun _ => answerMoves_done (.single (.sweepStarts _))

theorem runSweepAbort_moves (s : State) (body : List Byte) : AnswerMoves s (s.runSweepAbort body) := by
  unfold State.runSweepAbort
  exact answerMoves_unless fun _ => answerMoves_unless fun _ =>
    answerMoves_done (((clearPending_moves s).trans (endSweep_quiet ..).moves).trans (reevaluate_moves _))

theorem runQueryExtent_moves (s : State) (body : List Byte) : AnswerMoves s (s.runQueryExtent body) := by
  unfold State.runQueryExtent
  refine answerMoves_unless fun _ => ?_
  split
  · trivial
  · exact answerMoves_unless fun _ => answerMoves_done .refl

theorem runQueryAgent_moves (s : State) (a : AgentId) : AnswerMoves s (s.runQueryAgent a) := answerMoves_done .refl

theorem readAgentCounters_quiet (s : State) (a : AgentId) (clear : Bool) :
    Quiet s (if clear then s.modCounters a fun _ => .zero else s) := by
  split
  · exact modCounters_quiet ..
  · exact .refl s

theorem readMgmtCounters_quiet (s : State) (clear : Bool) :
    Quiet s (if clear then s.modMgmtCounters fun _ => .zero else s) := by
  split
  · exact modMgmt_quiet ..
  · exact .refl s

theorem runReadCounters_moves (s : State) (body : List Byte) : AnswerMoves s (s.runReadCounters body) := by
  unfold State.runReadCounters
  split
  · trivial
  · refine answerMoves_unless fun _ => answerMoves_unless fun _ => ?_
    split
    · exact answerMoves_done (readAgentCounters_quiet ..).moves
    · exact answerMoves_done (readMgmtCounters_quiet ..).moves

theorem runReportResume_moves (s : State) (body : List Byte) : AnswerMoves s (s.runReportResume body) := by
  unfold State.runReportResume
  refine answerMoves_unless fun _ => ?_
  split
  · exact answerMoves_done (setReportQueue_quiet ..).moves
  · exact answerMoves_done .refl

/-- The reset's action on a session, with the tables empty. -/
theorem resetSession_moves {s : State} {a : AgentId} (h : NothingOf s a) : Moves s (s.resetSession a) := by
  unfold State.resetSession
  split
  · have hoffline : Moves s (s.modSession a fun x => { x with state := .offline }) := .single (.sessionEnds rfl rfl h)
    exact hoffline.trans (placeNotice_quiet ..).moves
  · exact .refl

theorem resetSession_nothingOf {s : State} {b : AgentId} (a : AgentId) (h : NothingOf s b) :
    NothingOf (s.resetSession a) b := by
  unfold State.resetSession
  split
  · exact ⟨h.records, h.entries, h.messages⟩
  · exact h

theorem resetSessions_moves : ∀ (l : List AgentId) (s : State), (∀ a, NothingOf s a) →
    Moves s (l.foldl State.resetSession s)
  | [], _, _ => .refl
  | a :: l, s, h => (resetSession_moves (h a)).trans
      (resetSessions_moves l (s.resetSession a) fun b => resetSession_nothingOf a (h b))

theorem resetTables_moves (s : State) : Moves s s.resetTables := by
  unfold State.resetTables
  extract_lets s1 s2 s3 s4 s5
  have hrefused := refuseEntries_quiet (s.setWaitList []) s.waitList .directoryReset
  have hended := endSweep_quiet s3 .aborted
  have hwait : s1.waitList = [] := hrefused.waitList
  have h1 : Moves s s1 := (setWaitList_moves s (List.nil_sublist _)).trans hrefused.moves
  have h2 : Moves s1 s2 := .single (.recordsLeave (l := s1.waitList) (k := []) (List.Sublist.refl _)
    (List.nil_sublist _) fun _ _ _ _ e he => absurd (hwait ▸ he) List.not_mem_nil)
  have h3 : Moves s2 s3 := .single (.messages fun a ha => absurd (PerAgent.get_const [] a) ha)
  have hnothing : ∀ a, NothingOf s4 a := fun a => by
    refine ⟨?_, ?_, ?_⟩
    · rw [hended.grantTable]
      exact fun r hr => absurd hr List.not_mem_nil
    · rw [hended.waitList]
      exact fun e he => absurd (hwait ▸ he) List.not_mem_nil
    · rw [State.sendList, hended.sendLists]
      exact PerAgent.get_const [] a
  exact ((((h1.trans h2).trans h3).trans hended.moves).trans (resetSessions_moves allAgents s4 hnothing)).trans
    (setChurn_quiet ..).moves

theorem runResetDirectory_moves (s : State) (body : List Byte) : AnswerMoves s (s.runResetDirectory body) := by
  unfold State.runResetDirectory
  exact answerMoves_unless fun _ => answerMoves_unless fun _ => resetTables_moves s

/-! ## Deadlines that pass (R2, R48, R66, R89) -/

theorem waitDeadlinePasses_moves (s : State) (a : AgentId) (tag : Nat) : Moves s (s.waitDeadlinePasses a tag) := by
  unfold State.waitDeadlinePasses
  split
  · exact .refl
  · split
    · exact expelEntry_moves ..
    · exact .refl

theorem recallDeadlinePasses_moves (s : State) (slot : Nat) : Moves s (s.recallDeadlinePasses slot) := by
  unfold State.recallDeadlinePasses
  split
  · exact .refl
  · rename_i r hr
    split
    · exact .refl
    · rename_i rc hrc
      split
      · split
        · exact resendRecall_moves s (recordAt_mem hr) hrc
        · exact fence_moves ..
      · exact .refl

theorem leaseDeadlinePasses_moves (s : State) (a : AgentId) : Moves s (s.leaseDeadlinePasses a) := by
  unfold State.leaseDeadlinePasses
  split
  · split
    · exact fence_moves ..
    · exact .refl
  · exact .refl

theorem millisecondTick_quiet (s : State) : Quiet s (if s.deadlineDue then s else s.timeAdvances) := by
  split
  · exact .refl s
  · exact timeAdvances_quiet s

/-! ## Every command -/

/-- Every command but POWER_ON and CONFIGURE completes in a state that a run of moves reaches. -/
theorem exec_moves {c : Instr} (hpower : c ≠ .powerOn) (hconfigure : c ≠ .configure) (s : State) :
    ∃ t, exec c s = .next t ∧ Moves s t := by
  cases c with
  | powerOn => exact absurd rfl hpower
  | configure => exact absurd rfl hconfigure
  | millisecondTick => exact ⟨_, rfl, (millisecondTick_quiet s).moves⟩
  | signalFound link => exact ⟨_, rfl, (signalFound_quiet s link).moves⟩
  | signalLost link => exact ⟨_, rfl, (signalLost_quiet s link).moves⟩
  | frameArrival a bytes => exact ⟨_, rfl, (frameArrives_quiet s a bytes).moves⟩
  | join a => exact ⟨_, rfl, onAnswerable_moves (handleJoin_moves a) s .join⟩
  | acquire a => exact ⟨_, rfl, onAnswerable_moves (handleAcquire_moves a) s .acquire⟩
  | convert a => exact ⟨_, rfl, onAnswerable_moves (handleConvert_moves a) s .convert⟩
  | query a => exact ⟨_, rfl, onAnswerable_moves (handleQuery_moves a) s .query⟩
  | leave a => exact ⟨_, rfl, onAnswerable_moves (handleLeave_moves a) s .leave⟩
  | release a => exact ⟨_, rfl, onClosing_moves (handleRelease_moves a) s .release⟩
  | downgrade a => exact ⟨_, rfl, onClosing_moves (handleDowngrade_moves a) s .downgrade⟩
  | cancel a => exact ⟨_, rfl, onClosing_moves (handleCancel_moves a) s .cancel⟩
  | keepalive a => exact ⟨_, rfl, onClosing_moves (fun _ _ => .refl) s .keepalive⟩
  | waitDeadline a tag => exact ⟨_, rfl, waitDeadlinePasses_moves s a tag⟩
  | recallDeadline slot => exact ⟨_, rfl, recallDeadlinePasses_moves s slot⟩
  | sessionLeaseExpiry a => exact ⟨_, rfl, leaseDeadlinePasses_moves s a⟩
  | sweepStep => exact ⟨_, rfl, sweepOnce_moves s⟩
  | agentLinkSend a => exact ⟨_, rfl, agentLinkSends_moves s a⟩
  | endOfTransmission link =>
    cases link with
    | agent a => exact ⟨_, rfl, (modLink_quiet s a _).moves⟩
    | mgmt => exact ⟨_, rfl, (modMgmt_quiet s _).moves⟩
  | mgmtFrameArrival bytes => exact ⟨_, rfl, (mgmtFrameArrives_quiet s bytes).moves⟩
  | mgmtLinkSend => exact ⟨_, rfl, (mgmtLinkSends_quiet s).moves⟩
  | reportAck => exact ⟨_, rfl, (reportAckTaken_quiet s).moves⟩
  | setParam => exact ⟨_, rfl, onCommand_moves runSetParam_moves s .setParam⟩
  | admitAgent => exact ⟨_, rfl, onCommand_moves (onAgent_moves runAdmit_moves) s .admitAgent⟩
  | evict => exact ⟨_, rfl, onCommand_moves (onAgent_moves runEvict_moves) s .evict⟩
  | pause => exact ⟨_, rfl, onCommand_moves runPause_moves s .pause⟩
  | resume => exact ⟨_, rfl, onCommand_moves runResume_moves s .resume⟩
  | sweepStart => exact ⟨_, rfl, onCommand_moves runSweepStart_moves s .sweepStart⟩
  | sweepAbort => exact ⟨_, rfl, onCommand_moves runSweepAbort_moves s .sweepAbort⟩
  | queryExtent => exact ⟨_, rfl, onCommand_moves runQueryExtent_moves s .queryExtent⟩
  | queryAgent => exact ⟨_, rfl, onCommand_moves (onAgent_moves runQueryAgent_moves) s .queryAgent⟩
  | ackChurn => exact ⟨_, rfl, onCommand_moves (onAgent_moves runAckChurn_moves) s .ackChurn⟩
  | reportResume => exact ⟨_, rfl, onCommand_moves runReportResume_moves s .reportResume⟩
  | readCounters => exact ⟨_, rfl, onCommand_moves runReadCounters_moves s .readCounters⟩
  | resetDirectory => exact ⟨_, rfl, onCommand_moves runResetDirectory_moves s .resetDirectory⟩

end Sys2Proof.Laws
end

section
/-!
SUPPORT. POWER_ON, CONFIGURE and a directory in UNCONFIGURED: what the commands that are no run of moves do, and what the
laws of the tables need of them.
-/

namespace Sys2Proof.Laws

-- One lemma at a time: checked at once, so many would start more threads than the memory limit of check.sh allows.
set_option Elab.async false

open Sys2Proof.Machine Sys2Proof.Safety

/-! ## CONFIGURE (R162) -/

/-- A number spelled by so many bytes lies below that power of 256. -/
theorem beNat_lt (bytes : List Byte) : beNat bytes < 256 ^ bytes.length := by
  induction bytes using List.reverseRecOn with
  | nil => simp [beNat]
  | append_singleton bytes b ih =>
    have hb : b.toNat < 256 := b.isLt
    rw [beNat_snoc, List.length_append, List.length_singleton, Nat.pow_succ]
    omega

theorem field_lt (body : List Byte) (offset size : Nat) : field body offset size < 256 ^ size :=
  (beNat_lt _).trans_le (Nat.pow_le_pow_right (by decide) (List.length_take_le ..))

/-- Each agent's value changed in turn. -/
theorem foldl_modify_get {α : Type} (f : AgentId → α → α) (b : AgentId) : ∀ {l : List AgentId} (p : PerAgent α), l.Nodup →
    (l.foldl (fun p a => p.modify a (f a)) p).get b = if b ∈ l then f b (p.get b) else p.get b
  | [], _, _ => by simp
  | a :: l, p, h => by
    obtain ⟨ha, hl⟩ := List.nodup_cons.mp h
    rw [List.foldl_cons, foldl_modify_get f b _ hl, PerAgent.get_modify]
    by_cases hb : b = a
    · subst hb
      simp [ha]
    · simp [hb]

/-- Agent `b`'s session record after CONFIGURE. -/
theorem applyConfigure_session (s : State) (q : ConfigureFields) (b : AgentId) : (s.applyConfigure q).session b =
    { s.session b with admitFlag := q.admitMask.getLsbD b.val, group := q.groupOf.get b } := by
  have hget := foldl_modify_get (fun a (x : Session) =>
    { x with admitFlag := q.admitMask.getLsbD a.val, group := q.groupOf.get a }) b (l := allAgents) s.sessions (by decide)
  rw [if_pos (mem_allAgents b)] at hget
  exact hget

/-- What an accepted CONFIGURE does to the tables. -/
structure Configures (s t : State) : Prop where
  unconfigured : s.management.state = .unconfigured
  running : t.management.state = .running
  records : t.grantTable.records = s.grantTable.records
  counter : ∃ n ≤ Config.tokenMax, t.grantTable.counter = max s.grantTable.counter n
  waitList : t.waitList = s.waitList
  sendLists : t.sendLists = s.sendLists
  sessions : ∀ a, (t.session a).state = (s.session a).state ∧ (t.session a).epoch = (s.session a).epoch

theorem configureFields_some {body : List Byte} {q : ConfigureFields} (h : configureFields body = some q) :
    q.tokenFloor ≤ Config.tokenMax := by
  unfold configureFields at h
  dsimp only at h
  split at h
  · obtain rfl := Option.some.inj h
    have hlt := field_lt body 31 8
    simp only [Config.tokenMax]
    omega
  · cases h

theorem applyConfigure_configures {s : State} {q : ConfigureFields} (h : s.management.state = .unconfigured)
    (hfloor : q.tokenFloor ≤ Config.tokenMax) : Configures s (s.applyConfigure q) :=
  ⟨h, rfl, rfl, ⟨_, hfloor, rfl⟩, rfl, rfl, fun a => by rw [applyConfigure_session]; exact ⟨rfl, rfl⟩⟩

/-- CONFIGURE changes no table, or is accepted. -/
theorem configure_cases (s : State) :
    Quiet s (s.onCommand .configure State.runConfigure) ∨ Configures s (s.onCommand .configure State.runConfigure) := by
  have htaking := afterTakingCommand_quiet s
  rcases onCommand_cases s .configure State.runConfigure with ⟨-, hidle⟩ | ⟨f, rest, -, htaken⟩
  · rw [hidle]
    exact .inl (.refl s)
  · rw [htaken]
    unfold State.runConfigure
    split
    · exact .inl (htaking.trans (placeMgmtReply_quiet ..))
    · rename_i hunconfigured
      split
      · exact .inl (htaking.trans (placeMgmtReply_quiet ..))
      · rename_i q hq
        obtain ⟨hun, hrun, hrecords, hcounter, hwait, hsend, hsessions⟩ :=
          applyConfigure_configures (not_not.mp hunconfigured) (configureFields_some hq)
        exact .inr ⟨hun, hrun, hrecords, hcounter, hwait, hsend, hsessions⟩

/-- Every command: POWER_ON, an accepted CONFIGURE, or a run of moves. -/
theorem exec_cases (c : Instr) (s : State) : ∃ t, exec c s = .next t ∧
    (c = .powerOn ∧ t = { State.reset with pending := s.pending } ∨ Configures s t ∨ Moves s t) := by
  by_cases hpower : c = .powerOn
  · subst hpower
    exact ⟨_, rfl, .inl ⟨rfl, rfl⟩⟩
  · by_cases hconfigure : c = .configure
    · subst hconfigure
      rcases configure_cases s with hquiet | hconfigures
      · exact ⟨_, rfl, .inr (.inr hquiet.moves)⟩
      · exact ⟨_, rfl, .inr (.inl hconfigures)⟩
    · obtain ⟨t, hexec, hmoves⟩ := exec_moves hpower hconfigure s
      exact ⟨t, hexec, .inr (.inr hmoves)⟩

/-- A law that holds at power-on, that a move keeps, and that an accepted CONFIGURE keeps where `Q` holds, is kept by every
step from a state of `Q`. -/
theorem step_keeps_tables {P Q : State → Prop} (hqueue : ∀ s rest, P s → P { s with pending := rest })
    (hqueue' : ∀ s rest, Q s → Q { s with pending := rest }) (hreset : P State.reset)
    (hmove : ∀ s t, Move s t → P s → P t) (hconfigure : ∀ s t, Configures s t → Q s → P s → P t) {s t : State}
    (h : step s = .next t) (hq : Q s) (hp : P s) : P t := by
  unfold step at h
  split at h
  · exact Host.Outcome.next.inj h ▸ hp
  · rename_i c rest _
    obtain ⟨u, hexec, hu⟩ := exec_cases c { s with pending := rest }
    obtain rfl : u = t := Host.Outcome.next.inj (hexec.symm.trans h)
    rcases hu with ⟨-, rfl⟩ | hconfigures | hmoves
    · exact hqueue _ _ hreset
    · exact hconfigure _ _ hconfigures (hqueue' s rest hq) (hqueue s rest hp)
    · exact hmoves.keeps hmove (hqueue s rest hp)

/-! ## The laws at power-on and at CONFIGURE -/

@[simp] theorem reset_session (a : AgentId) : State.reset.session a = .powerOn := PerAgent.get_const ..

@[simp] theorem reset_sendList (a : AgentId) : State.reset.sendList a = [] := PerAgent.get_const ..

@[simp] theorem reset_link (a : AgentId) : State.reset.link a = .powerOn := PerAgent.get_const ..

@[simp] theorem reset_member (a : AgentId) : State.reset.member a = { window := [], alarm := false } :=
  PerAgent.get_const ..

theorem reset_indexLaw : IndexLaw State.reset := by
  simp [IndexLaw, State.reset]

theorem reset_leasesSound : LeasesSound State.reset where
  index := reset_indexLaw
  noConflict := .nil
  extents _ hr := absurd hr List.not_mem_nil
  apart := .nil
  claims _ hc := absurd hc List.not_mem_nil

theorem reset_sessionLaw : SessionLaw State.reset :=
  ⟨fun _ hr => absurd hr List.not_mem_nil, fun _ he => absurd he List.not_mem_nil,
    fun a ha => absurd (reset_sendList a) ha⟩

theorem reset_epochLaw : EpochLaw State.reset := by
  intro a
  simp [Session.powerOn]

theorem reset_unconfiguredLaw : UnconfiguredLaw State.reset := fun _ =>
  ⟨fun a => ⟨by simp [Session.powerOn], reset_sendList a⟩, rfl, rfl, rfl⟩

theorem Configures.indexLaw {s t : State} (h : Configures s t) (hs : IndexLaw s) : IndexLaw t := by
  obtain ⟨hord, hslots, hslotMax, htokens, htokenMax, hmax⟩ := hs
  obtain ⟨n, hn, hcounter⟩ := h.counter
  unfold IndexLaw
  rw [h.records, hcounter]
  exact ⟨hord, hslots, hslotMax, htokens, fun r hr => (htokenMax r hr).trans (le_max_left ..), max_le hmax hn⟩

theorem Configures.tokensGrow {s t : State} (h : Configures s t) : TokensGrow s t := by
  obtain ⟨n, -, hcounter⟩ := h.counter
  refine ⟨hcounter ▸ le_max_left .., fun r hr => .inl ⟨r, h.records ▸ hr, rfl, rfl, rfl, rfl, rfl⟩⟩

theorem Configures.sessionLaw {s t : State} (h : Configures s t) (hs : SessionLaw s) : SessionLaw t := by
  have hactive : ∀ {a epoch}, ActiveUnder s a epoch → ActiveUnder t a epoch := fun {a _} ha => by
    obtain ⟨hstate, hepoch⟩ := h.sessions a
    rwa [ActiveUnder, hstate, hepoch]
  obtain ⟨hrecords, hentries, hmessages⟩ := hs
  refine ⟨fun r hr => hactive (hrecords r (h.records ▸ hr)), fun e he => hactive (hentries e (h.waitList ▸ he)),
    fun a ha => (h.sessions a).2 ▸ hactive (hmessages a ?_)⟩
  rwa [State.sendList, h.sendLists] at ha

/-- Before CONFIGURE there is no lease and no claim. -/
theorem Configures.leasesSound {s t : State} (h : Configures s t) (hun : UnconfiguredLaw s) (hs : LeasesSound s) :
    LeasesSound t := by
  obtain ⟨-, hrecords, hentries, -⟩ := hun h.unconfigured
  have htrecords : t.grantTable.records = [] := h.records.trans hrecords
  have htentries : t.waitList = [] := h.waitList.trans hentries
  refine ⟨h.indexLaw hs.index, ?_, ?_, ?_, ?_⟩
  · unfold NoConflict
    rw [htrecords]
    exact .nil
  · simp [htrecords]
  · simp [htentries]
  · simp [htentries]

/-- Before CONFIGURE no session is ACTIVE. -/
theorem Configures.epochLaw {s t : State} (h : Configures s t) (hun : UnconfiguredLaw s) (hs : EpochLaw s) :
    EpochLaw t := by
  obtain ⟨hsessions, -⟩ := hun h.unconfigured
  intro a
  obtain ⟨hstate, hepoch⟩ := h.sessions a
  refine ⟨hepoch ▸ (hs a).1, fun d hd => ?_⟩
  rw [hstate, (hsessions a).1] at hd
  cases hd

/-! ## UNCONFIGURED (R160) -/

theorem Quiet.unconfiguredLaw {s t : State} (h : Quiet s t) (hs : UnconfiguredLaw s) : UnconfiguredLaw t := by
  intro ht
  obtain ⟨hsessions, hrecords, hentries, hsweep⟩ := hs (h.configured ht)
  refine ⟨fun a => ⟨(h.sessions a).offline (hsessions a).1, ?_⟩, ?_, h.waitList.trans hentries, h.sweep hsweep⟩
  · rw [State.sendList, h.sendLists]
    exact (hsessions a).2
  · rw [h.grantTable]
    exact hrecords

/-- Where a request of any kind is refused, nothing of the tables changes. -/
theorem onAnswerable_refused {s : State} {a : AgentId} {k : AnswerableKind} {act : State → Frame AnswerableKind → State}
    (hs : s.management.state = .unconfigured)
    (h : ∀ t f, t.management.state = .unconfigured → act t f = t.refuse a f.tag .notReady) :
    Quiet s (s.onAnswerable a k act) := by
  rcases onAnswerable_cases s a k act with ⟨-, hidle⟩ | ⟨f, rest, -, htaken⟩
  · rw [hidle]
    exact .refl s
  · have hstate : (s.afterTakingAnswerable a f.epoch).management.state = .unconfigured := by
      unfold State.afterTakingAnswerable State.renewLease
      split
      · split <;> exact hs
      · exact hs
    rw [htaken, h _ _ hstate]
    exact (afterTakingAnswerable_quiet ..).trans (refuse_quiet ..)

theorem sessionCheck_notReady {s : State} (hs : s.management.state = .unconfigured) (a : AgentId) (epoch : Nat) :
    s.sessionCheck a epoch = some .notReady := if_pos hs

theorem onClosing_late {s : State} (hs : s.management.state = .unconfigured) (a : AgentId) (k : ClosingKind)
    (act : State → Frame ClosingKind → State) : Quiet s (s.onClosing a k act) := by
  rcases onClosing_cases s a k act with ⟨-, hidle⟩ | ⟨f, rest, -, htaken⟩
  · rw [hidle]
    exact .refl s
  · have hstate : (s.afterTakingClosing a f.epoch).management.state = .unconfigured := by
      unfold State.afterTakingClosing State.renewLease
      split
      · split <;> exact hs
      · exact hs
    rw [htaken]
    unfold State.closingChecks
    rw [if_pos hstate]
    exact (afterTakingClosing_quiet ..).trans (modCounters_quiet ..)

/-- What a command comes to changes no table. -/
def AnswerQuiet (s : State) : Answer → Prop
  | .refuse _ => True
  | .done t _ => Quiet s t

theorem answerQuiet_done {s t : State} {result : MgmtResult} (h : Quiet s t) : AnswerQuiet s (.done t result) := h

theorem onCommand_quiet {s : State} {act : State → List Byte → Answer} (k : CommandKind)
    (h : ∀ t body, Quiet s t → t.management.state = s.management.state → AnswerQuiet t (act t body)) :
    Quiet s (s.onCommand k act) := by
  rcases onCommand_cases s k act with ⟨-, hidle⟩ | ⟨f, rest, -, htaken⟩
  · rw [hidle]
    exact .refl s
  · rw [htaken]
    have htaking := afterTakingCommand_quiet s
    have hact := h s.afterTakingCommand f.body htaking rfl
    cases hanswer : act s.afterTakingCommand f.body with
    | refuse status => exact htaking.trans (placeMgmtReply_quiet ..)
    | done t result =>
      rw [hanswer] at hact
      have hdone : Quiet s.afterTakingCommand t := hact
      exact (htaking.trans hdone).trans (placeMgmtReply_quiet ..)

/-- A command that UNCONFIGURED refuses WRONG_STATE. -/
theorem onCommand_wrongState {s : State} {act : State → List Byte → Answer} (k : CommandKind)
    (hs : s.management.state = .unconfigured)
    (h : ∀ t body, t.management.state = .unconfigured → act t body = .refuse .wrongState) :
    Quiet s (s.onCommand k act) :=
  onCommand_quiet k fun t body _ hstate => by
    rw [h t body (hstate.trans hs)]
    trivial

theorem onAgent_quiet {s : State} {act : State → AgentId → Answer} (h : ∀ a, AnswerQuiet s (act s a))
    (body : List Byte) : AnswerQuiet s (State.onAgent act s body) := by
  unfold State.onAgent
  split
  · trivial
  · split
    · trivial
    · exact h _

theorem runReadCounters_quiet (s : State) (body : List Byte) : AnswerQuiet s (s.runReadCounters body) := by
  unfold State.runReadCounters
  split
  · trivial
  · split
    · trivial
    · split
      · trivial
      · split
        · exact answerQuiet_done (readAgentCounters_quiet ..)
        · exact answerQuiet_done (readMgmtCounters_quiet ..)

theorem runReportResume_quiet (s : State) (body : List Byte) : AnswerQuiet s (s.runReportResume body) := by
  unfold State.runReportResume
  split
  · trivial
  · split
    · exact answerQuiet_done (setReportQueue_quiet ..)
    · exact answerQuiet_done (.refl s)

/-- EVICT of an agent that is not ACTIVE clears its flag alone (R97). -/
theorem runEvict_quiet {s : State} {a : AgentId} (h : (s.session a).state = .offline) : AnswerQuiet s (s.runEvict a) := by
  unfold State.runEvict
  simp only [h]
  exact answerQuiet_done (modSession_quiet s a { flag := fun hactive => by simp [h, isActive] at hactive })

theorem runSweepAbort_quiet {s : State} (h : s.sweep = none) (body : List Byte) :
    AnswerQuiet s (s.runSweepAbort body) := by
  unfold State.runSweepAbort
  split
  · trivial
  · trivial

/-- A send from a send list that is empty takes no RECALL (R63). -/
theorem agentLinkSends_unconfiguredLaw {s : State} (hs : UnconfiguredLaw s) (a : AgentId) :
    UnconfiguredLaw (s.agentLinkSends a) := by
  unfold State.agentLinkSends
  split
  · split
    · exact hs
    · rename_i choice _
      refine (modLink_quiet ..).unconfiguredLaw ?_
      cases choice with
      | control frame => exact (modLink_quiet ..).unconfiguredLaw hs
      | reply r =>
        unfold State.leaveLane
        dsimp only
        split
        · exact ((modLink_quiet ..).trans (modCounters_quiet ..)).unconfiguredLaw hs
        · exact (modLink_quiet ..).unconfiguredLaw hs
      | recallMessage m =>
        intro hun
        obtain ⟨hsessions, hrest⟩ := hs hun
        refine ⟨fun b => ⟨(hsessions b).1, ?_⟩, hrest⟩
        have hnil : s.sendList b = [] := (hsessions b).2
        unfold State.leaveLane
        rw [State.modSendList_sendList]
        split
        · rw [State.modLink_sendList, hnil, List.tail_nil]
        · exact hnil
      | credit => exact hs
  · exact hs

/-- In UNCONFIGURED every command but POWER_ON and CONFIGURE keeps what UNCONFIGURED promises. -/
theorem exec_unconfigured {c : Instr} {s t : State} (hpower : c ≠ .powerOn) (hconfigure : c ≠ .configure)
    (hs : UnconfiguredLaw s) (hun : s.management.state = .unconfigured) (h : exec c s = .next t) :
    UnconfiguredLaw t := by
  obtain ⟨hsessions, hrecords, hentries, hsweep⟩ := hs hun
  obtain ⟨u, hu, hlaw⟩ : ∃ u, exec c s = .next u ∧ (Quiet s u ∨ UnconfiguredLaw u) := by
    cases c with
    | powerOn => exact absurd rfl hpower
    | configure => exact absurd rfl hconfigure
    | millisecondTick => exact ⟨_, rfl, .inl (millisecondTick_quiet s)⟩
    | signalFound link => exact ⟨_, rfl, .inl (signalFound_quiet s link)⟩
    | signalLost link => exact ⟨_, rfl, .inl (signalLost_quiet s link)⟩
    | frameArrival a bytes => exact ⟨_, rfl, .inl (frameArrives_quiet s a bytes)⟩
    | join a =>
      exact ⟨_, rfl, .inl (onAnswerable_refused hun fun t f ht => by simp [State.handleJoin, State.joinRefusal, ht])⟩
    | acquire a =>
      exact ⟨_, rfl, .inl (onAnswerable_refused hun fun t f ht => by
        simp [State.handleAcquire, sessionCheck_notReady ht])⟩
    | convert a =>
      exact ⟨_, rfl, .inl (onAnswerable_refused hun fun t f ht => by
        simp [State.handleConvert, sessionCheck_notReady ht])⟩
    | query a =>
      exact ⟨_, rfl, .inl (onAnswerable_refused hun fun t f ht => by
        simp [State.handleQuery, sessionCheck_notReady ht])⟩
    | leave a =>
      exact ⟨_, rfl, .inl (onAnswerable_refused hun fun t f ht => by
        simp [State.handleLeave, sessionCheck_notReady ht])⟩
    | release a => exact ⟨_, rfl, .inl (onClosing_late hun ..)⟩
    | downgrade a => exact ⟨_, rfl, .inl (onClosing_late hun ..)⟩
    | cancel a => exact ⟨_, rfl, .inl (onClosing_late hun ..)⟩
    | keepalive a => exact ⟨_, rfl, .inl (onClosing_late hun ..)⟩
    | waitDeadline a tag => exact ⟨s, by simp [exec, execWaitDeadline, State.waitDeadlinePasses, hentries], .inr hs⟩
    | recallDeadline slot =>
      exact ⟨s, by simp [exec, execRecallDeadline, State.recallDeadlinePasses, State.recordAt, hrecords], .inr hs⟩
    | sessionLeaseExpiry a =>
      exact ⟨s, by simp [exec, execSessionLeaseExpiry, State.leaseDeadlinePasses, (hsessions a).1], .inr hs⟩
    | sweepStep => exact ⟨s, by simp [exec, execSweepStep, State.sweepOnce, hsweep], .inr hs⟩
    | agentLinkSend a => exact ⟨_, rfl, .inr (agentLinkSends_unconfiguredLaw hs a)⟩
    | endOfTransmission link =>
      cases link with
      | agent a => exact ⟨_, rfl, .inl (modLink_quiet s a _)⟩
      | mgmt => exact ⟨_, rfl, .inl (modMgmt_quiet s _)⟩
    | mgmtFrameArrival bytes => exact ⟨_, rfl, .inl (mgmtFrameArrives_quiet s bytes)⟩
    | mgmtLinkSend => exact ⟨_, rfl, .inl (mgmtLinkSends_quiet s)⟩
    | reportAck => exact ⟨_, rfl, .inl (reportAckTaken_quiet s)⟩
    | setParam => exact ⟨_, rfl, .inl (onCommand_wrongState _ hun fun t body ht => if_pos ht)⟩
    | admitAgent =>
      exact ⟨_, rfl, .inl (onCommand_quiet _ fun t body _ _ => onAgent_quiet (fun a =>
        answerQuiet_done (modSession_quiet t a (admitted_sameStanding _))) body)⟩
    | evict =>
      exact ⟨_, rfl, .inl (onCommand_quiet _ fun t body ht _ => onAgent_quiet (fun a =>
        runEvict_quiet ((ht.sessions a).offline (hsessions a).1)) body)⟩
    | pause => exact ⟨_, rfl, .inl (onCommand_wrongState _ hun fun t body ht => if_pos (by simp [ht]))⟩
    | resume => exact ⟨_, rfl, .inl (onCommand_wrongState _ hun fun t body ht => if_pos (by simp [ht]))⟩
    | sweepStart => exact ⟨_, rfl, .inl (onCommand_wrongState _ hun fun t body ht => if_pos ht)⟩
    | sweepAbort =>
      exact ⟨_, rfl, .inl (onCommand_quiet _ fun t body ht _ => runSweepAbort_quiet (ht.sweep hsweep) body)⟩
    | queryExtent => exact ⟨_, rfl, .inl (onCommand_wrongState _ hun fun t body ht => if_pos ht)⟩
    | queryAgent =>
      exact ⟨_, rfl, .inl (onCommand_quiet _ fun t body _ _ => onAgent_quiet (fun a => answerQuiet_done (.refl t)) body)⟩
    | ackChurn =>
      exact ⟨_, rfl, .inl (onCommand_quiet _ fun t body _ _ => onAgent_quiet (fun a =>
        answerQuiet_done (modMember_quiet t a _)) body)⟩
    | reportResume => exact ⟨_, rfl, .inl (onCommand_quiet _ fun t body _ _ => runReportResume_quiet t body)⟩
    | readCounters => exact ⟨_, rfl, .inl (onCommand_quiet _ fun t body _ _ => runReadCounters_quiet t body)⟩
    | resetDirectory => exact ⟨_, rfl, .inl (onCommand_wrongState _ hun fun t body ht => if_pos ht)⟩
  obtain rfl : u = t := Host.Outcome.next.inj (hu.symm.trans h)
  exact hlaw.elim (fun hquiet => hquiet.unconfiguredLaw hs) id

theorem exec_unconfiguredLaw {c : Instr} {s t : State} (h : exec c s = .next t) (hs : UnconfiguredLaw s) :
    UnconfiguredLaw t := by
  by_cases hpower : c = .powerOn
  · subst hpower
    obtain rfl := Host.Outcome.next.inj h
    exact reset_unconfiguredLaw
  · by_cases hconfigure : c = .configure
    · subst hconfigure
      obtain rfl := Host.Outcome.next.inj h
      rcases configure_cases s with hquiet | hconfigures
      · exact hquiet.unconfiguredLaw hs
      · exact fun ht => absurd (hconfigures.running.symm.trans ht) (by simp)
    · by_cases hun : s.management.state = .unconfigured
      · exact exec_unconfigured hpower hconfigure hs hun h
      · obtain ⟨u, hu, hmoves⟩ := exec_moves hpower hconfigure s
        obtain rfl : u = t := Host.Outcome.next.inj (hu.symm.trans h)
        have hstill := hmoves.keeps (P := fun s => s.management.state ≠ .unconfigured) (fun _ _ => Move.configured) hun
        exact fun ht => absurd ht hstill

/-- What UNCONFIGURED promises is kept by every step. -/
theorem step_unconfiguredLaw {s t : State} (h : step s = .next t) (hs : UnconfiguredLaw s) : UnconfiguredLaw t := by
  unfold step at h
  split at h
  · exact Host.Outcome.next.inj h ▸ hs
  · exact exec_unconfiguredLaw h hs

end Sys2Proof.Laws
end

section
/-!
The statements about what every step keeps of leases, claims, sessions and tokens.
-/

namespace Sys2Proof.Proofs

open Sys2Proof.Machine Sys2Proof.Safety Sys2Proof.Laws

/-- Settles O11: every move keeps leases and claims sound, an accepted CONFIGURE finds no lease, and a directory in
UNCONFIGURED refuses all that would put something into a table. -/
theorem leasesNeverConflict : Obligations.LeasesNeverConflict := by
  rintro s t ⟨hlease, hextent, hun⟩ hstep
  have hsound : LeasesSound t := step_keeps_tables (P := LeasesSound) (Q := UnconfiguredLaw) (fun _ _ h => h.congr)
    (fun _ _ h => h) reset_leasesSound (fun _ _ => Move.leasesSound) (fun _ _ => Configures.leasesSound) hstep hun
    ((leasesSound_iff s).mpr ⟨hlease, hextent⟩)
  obtain ⟨hlease', hextent'⟩ := (leasesSound_iff t).mp hsound
  exact ⟨hlease', hextent', step_unconfiguredLaw hstep hun⟩

/-- Settles O10: the index law is kept by every move and by an accepted CONFIGURE. -/
theorem indexStaysOrdered : Obligations.IndexStaysOrdered := fun _ _ hs hstep =>
  step_keeps_tables (Q := fun _ => True) (fun _ _ h => h) (fun _ _ h => h) reset_indexLaw (fun _ _ => Move.indexLaw)
    (fun _ _ h _ => h.indexLaw) hstep trivial hs

/-- Settles O12: a session that ends leaves nothing behind, one that starts finds nothing, and before CONFIGURE no session is
ACTIVE. -/
theorem sessionsOwnTheirTables : Obligations.SessionsOwnTheirTables := fun _ _ hstep =>
  ⟨step_keeps_tables (Q := fun _ => True) (fun _ _ h => h) (fun _ _ h => h) reset_sessionLaw (fun _ _ => Move.sessionLaw)
      (fun _ _ h _ => h.sessionLaw) hstep trivial,
    step_keeps_tables (Q := UnconfiguredLaw) (fun _ _ h => h) (fun _ _ h => h) reset_epochLaw (fun _ _ => Move.epochLaw)
      (fun _ _ => Configures.epochLaw) hstep⟩

/-- Settles O17: tokens grow in every move and in an accepted CONFIGURE. -/
theorem tokensOnlyGrow : Obligations.TokensOnlyGrow := by
  intro c s t hpower hexec
  obtain ⟨u, hu, hcases⟩ := exec_cases c s
  obtain rfl : u = t := Host.Outcome.next.inj (hu.symm.trans hexec)
  rcases hcases with ⟨hon, -⟩ | hconfigures | hmoves
  · exact absurd hon hpower
  · exact hconfigures.tokensGrow
  · exact hmoves.keeps (P := TokensGrow s) (fun _ _ hmove hs => tokensGrow_trans hs hmove.tokensGrow) (tokensGrow_refl s)

end Sys2Proof.Proofs
end

section
/-!
SUPPORT. The walk of the Wait List: all that it may change, the order in which it visits the entries, and what a visit comes
to (R40 to R42).
-/

namespace Sys2Proof.Laws

-- One lemma at a time: checked at once, so many would start more threads than the memory limit of check.sh allows.
set_option Elab.async false

open Sys2Proof.Machine Sys2Proof.Safety

/-! ## What a walk may change, run after run -/

theorem sameButIssued_iff (x y : Session) : SameButIssued x y ↔ ∃ grants recalls,
    x.counters.grantsIssued ≤ grants ∧ x.counters.recallsIssued ≤ recalls ∧
    y = { x with counters := { x.counters with grantsIssued := grants, recallsIssued := recalls } } := by
  constructor
  · rintro ⟨hgrants, hrecalls, hsame⟩
    exact ⟨_, _, hgrants, hrecalls, hsame.symm⟩
  · rintro ⟨grants, recalls, hgrants, hrecalls, rfl⟩
    exact ⟨hgrants, hrecalls, rfl⟩

theorem sameButIssued_refl (x : Session) : SameButIssued x x := ⟨le_refl _, le_refl _, rfl⟩

theorem sameButIssued_trans {x y z : Session} (h : SameButIssued x y) (k : SameButIssued y z) : SameButIssued x z := by
  rw [sameButIssued_iff] at *
  obtain ⟨grants, recalls, hgrants, hrecalls, rfl⟩ := h
  obtain ⟨grants', recalls', hgrants', hrecalls', rfl⟩ := k
  exact ⟨grants', recalls', hgrants.trans hgrants', hrecalls.trans hrecalls', rfl⟩

theorem sameButReplies_trans {l m n : AgentLink} (h : SameButReplies l m) (k : SameButReplies m n) :
    SameButReplies l n := by
  unfold SameButReplies at *
  rw [← k, ← h]

theorem sameLease_trans {r q p : GrantRecord} (h : SameLease r q) (k : SameLease q p) : SameLease r p := by
  obtain ⟨hslot, hholder, hepoch, hextent, hpending⟩ := h
  obtain ⟨kslot, kholder, kepoch, kextent, kpending⟩ := k
  exact ⟨kslot.trans hslot, kholder.trans hholder, kepoch.trans hepoch, kextent.trans hextent, kpending.trans hpending⟩

theorem walkEffect_refl (s : State) : WalkEffect s s :=
  ⟨rfl, rfl, rfl, rfl, rfl, rfl, rfl, fun _ => sameButIssued_refl _, fun _ => rfl,
    fun r hr => ⟨r, hr, rfl, rfl, rfl, rfl, rfl⟩, le_refl _, le_refl _⟩

theorem walkEffect_trans {s t u : State} (h : WalkEffect s t) (k : WalkEffect t u) : WalkEffect s u where
  timeBase := k.timeBase.trans h.timeBase
  sweep := k.sweep.trans h.sweep
  churn := k.churn.trans h.churn
  reportQueue := k.reportQueue.trans h.reportQueue
  management := k.management.trans h.management
  mgmtLink := k.mgmtLink.trans h.mgmtLink
  pending := k.pending.trans h.pending
  sessions a := sameButIssued_trans (h.sessions a) (k.sessions a)
  links a := sameButReplies_trans (h.links a) (k.links a)
  leases r hr := by
    obtain ⟨q, hq, hrq⟩ := h.leases r hr
    obtain ⟨p, hp, hqp⟩ := k.leases q hq
    exact ⟨p, hp, sameLease_trans hrq hqp⟩
  counter := h.counter.trans k.counter
  entries := k.entries.trans h.entries

/-! ## The operations of a walk -/

section
variable (s : State)

/-- The Grant Table changes and keeps every lease. -/
theorem grantTable_walkEffect {g : GrantTable} (hleases : ∀ r ∈ s.grantTable.records, ∃ q ∈ g.records, SameLease r q)
    (hcounter : s.grantTable.counter ≤ g.counter) : WalkEffect s { s with grantTable := g } :=
  { walkEffect_refl s with leases := hleases, counter := hcounter }

theorem modRecord_walkEffect (slot : Nat) {f : GrantRecord → GrantRecord} (h : ∀ r, SameLease r (f r)) :
    WalkEffect s (s.modRecord slot f) := by
  refine grantTable_walkEffect s (fun r hr => ⟨_, List.mem_map_of_mem hr, ?_⟩) (le_refl _)
  split
  · exact h r
  · exact ⟨rfl, rfl, rfl, rfl, rfl⟩

theorem setWaitList_walkEffect {l : List WaitEntry} (h : l.length ≤ s.waitList.length) :
    WalkEffect s (s.setWaitList l) := { walkEffect_refl s with entries := h }

theorem modSendList_walkEffect (a : AgentId) (f : List RecallMessage → List RecallMessage) :
    WalkEffect s (s.modSendList a f) := { walkEffect_refl s with }

theorem placeReply_walkEffect (a : AgentId) (tag : Nat) (reply : AgentReply) :
    WalkEffect s (s.placeReply a tag reply) :=
  { walkEffect_refl s with
    links := fun b => by
      rw [State.placeReply, State.modLink_link]
      split <;> rfl }

theorem modCounters_walkEffect (a : AgentId) {f : AgentCounters → AgentCounters}
    (h : ∀ x : Session, SameButIssued x { x with counters := f x.counters }) : WalkEffect s (s.modCounters a f) :=
  { walkEffect_refl s with
    sessions := fun b => by
      rw [State.modCounters, State.modSession_session]
      split
      · exact h _
      · exact sameButIssued_refl _ }

theorem foldl_walkEffect {α : Type} {f : State → α → State} (h : ∀ t x, WalkEffect t (f t x)) :
    ∀ (l : List α) (s : State), WalkEffect s (l.foldl f s)
  | [], s => walkEffect_refl s
  | x :: l, s => walkEffect_trans (h s x) (foldl_walkEffect h l (f s x))

end

theorem le_countUp (n : Nat) : n ≤ countUp n := by
  unfold countUp
  split <;> omega

theorem addGrant_walkEffect (s : State) (a : AgentId) : WalkEffect s (s.modCounters a AgentCounters.addGrant) :=
  modCounters_walkEffect s a fun _ => ⟨le_countUp _, le_refl _, rfl⟩

theorem addRecall_walkEffect (s : State) (a : AgentId) : WalkEffect s (s.modCounters a AgentCounters.addRecall) :=
  modCounters_walkEffect s a fun _ => ⟨le_refl _, le_countUp _, rfl⟩

theorem dropConvert_walkEffect (s : State) (a : AgentId) (slot : Nat) (code : RefusalCode) :
    WalkEffect s (s.dropConvert a slot code) := by
  unfold State.dropConvert
  split
  · exact walkEffect_refl s
  · exact walkEffect_trans (setWaitList_walkEffect s (List.eraseP_sublist).length_le) (placeReply_walkEffect ..)

theorem issueRecall_walkEffect (s : State) (r : GrantRecord) (wanted : Wanted) (cause : RecallCause) :
    WalkEffect s (s.issueRecall r wanted cause) := by
  unfold State.issueRecall
  extract_lets rc s1 s2 s3
  have h1 : WalkEffect s s1 := modRecord_walkEffect s r.slot fun _ => ⟨rfl, rfl, rfl, rfl, rfl⟩
  have h2 : WalkEffect s1 s2 := modSendList_walkEffect ..
  have h3 : WalkEffect s2 s3 := addRecall_walkEffect ..
  exact walkEffect_trans (walkEffect_trans (walkEffect_trans h1 h2) h3) (dropConvert_walkEffect ..)

theorem escalateRecall_walkEffect (s : State) (r : GrantRecord) (rc : RecallRecord) (cause : RecallCause) :
    WalkEffect s (s.escalateRecall r rc cause) := by
  unfold State.escalateRecall
  extract_lets s1
  have h1 : WalkEffect s s1 := modRecord_walkEffect s r.slot fun _ => ⟨rfl, rfl, rfl, rfl, rfl⟩
  exact walkEffect_trans h1 (modSendList_walkEffect ..)

theorem requestRecall_walkEffect (s : State) (slot : Nat) (wanted : Wanted) (cause : RecallCause) :
    WalkEffect s (s.requestRecall slot wanted cause) := by
  unfold State.requestRecall
  split
  · exact walkEffect_refl s
  · split
    · exact issueRecall_walkEffect ..
    · split
      · exact escalateRecall_walkEffect ..
      · exact walkEffect_refl s

theorem recallConflicts_walkEffect (s : State) (c : Claim) : WalkEffect s (s.recallConflicts c) :=
  foldl_walkEffect (fun _ _ => requestRecall_walkEffect ..) _ s

theorem tableGrant_walkEffect (s : State) (c : Claim) (epoch : Nat) : WalkEffect s (tableGrant s c epoch) := by
  unfold tableGrant
  cases c.kind with
  | acquire =>
    dsimp only
    unfold State.createRecord
    split
    · exact walkEffect_refl s
    · exact grantTable_walkEffect s (fun r hr =>
        ⟨r, (insertRecord_perm ..).mem_iff.mpr (List.mem_cons_of_mem _ hr), rfl, rfl, rfl, rfl, rfl⟩) (Nat.le_succ _)
  | convert slot =>
    exact grantTable_walkEffect s (fun r hr => ⟨upgradedIn slot s.nextToken r, List.mem_map_of_mem hr,
      by simp, by simp, by simp, by simp, by simp⟩) (Nat.le_succ _)

theorem grant_walkEffect (s : State) (c : Claim) (tag epoch : Nat) : WalkEffect s (s.grant c tag epoch) := by
  have htable := tableGrant_walkEffect s c epoch
  unfold State.grant
  unfold tableGrant at htable
  cases hkind : c.kind with
  | acquire =>
    rw [hkind] at htable
    exact walkEffect_trans (walkEffect_trans htable (placeReply_walkEffect ..)) (addGrant_walkEffect ..)
  | convert slot =>
    rw [hkind] at htable
    exact walkEffect_trans (walkEffect_trans htable (placeReply_walkEffect ..)) (addGrant_walkEffect ..)

theorem setEntryState_walkEffect (s : State) (place : Nat) (state : EntryState) :
    WalkEffect s (s.setEntryState place state) := setWaitList_walkEffect s (List.length_modify ..).le

theorem visitEntry_walkEffect (s : State) (place : Nat) (e : WaitEntry) : WalkEffect s (s.visitEntry place e).1 := by
  unfold State.visitEntry
  split
  · exact walkEffect_trans (setWaitList_walkEffect s (List.eraseIdx_sublist ..).length_le) (grant_walkEffect ..)
  · exact setEntryState_walkEffect ..
  · exact walkEffect_refl s
  · exact setEntryState_walkEffect ..
  · exact walkEffect_refl s
  · exact walkEffect_trans (setEntryState_walkEffect ..) (recallConflicts_walkEffect ..)
  · exact walkEffect_refl s
  · exact setEntryState_walkEffect ..

theorem walkFrom_walkEffect : ∀ (fuel place : Nat) (s : State), WalkEffect s (State.walkFrom fuel place s)
  | 0, _, s => walkEffect_refl s
  | fuel + 1, place, s => by
    unfold State.walkFrom
    split
    · exact walkEffect_refl s
    · exact walkEffect_trans (visitEntry_walkEffect ..) (walkFrom_walkEffect fuel ..)

/-! ## The order of a walk (R41) -/

/-- A visit leaves its entry behind: the place moves on, or the entry leaves and the list is shorter. -/
theorem visitEntry_progress {s : State} {place : Nat} {e : WaitEntry} (he : s.waitList[place]? = some e) :
    (s.visitEntry place e).1.waitList.length + place + 1 ≤ s.waitList.length + (s.visitEntry place e).2 := by
  have hlt : place < s.waitList.length := (List.getElem?_eq_some_iff.mp he).1
  have hentries := (visitEntry_walkEffect s place e).entries
  by_cases hnone : s.obstacle (s.waitList.take place) e.claim = none
  · have hvisit : s.visitEntry place e =
        ((s.setWaitList (s.waitList.eraseIdx place)).grant e.claim e.tag e.epoch, place) := by
      unfold State.visitEntry
      rw [hnone]
    have hgrant := (grant_walkEffect (s.setWaitList (s.waitList.eraseIdx place)) e.claim e.tag e.epoch).entries
    rw [State.setWaitList_waitList, List.length_eraseIdx_of_lt hlt] at hgrant
    rw [hvisit]
    dsimp only
    omega
  · have hnext : (s.visitEntry place e).2 = place + 1 := by
      unfold State.visitEntry
      split
      · rename_i h
        exact absurd h hnone
      all_goals rfl
    omega

/-- As many visits as there are entries left reach the end. -/
theorem walkFrom_walk : ∀ (fuel place : Nat) (s : State), s.waitList.length ≤ place + fuel →
    Walk s place (State.walkFrom fuel place s)
  | 0, place, s, h => .ended s place h
  | fuel + 1, place, s, h => by
    unfold State.walkFrom
    split
    · rename_i hend
      exact .ended s place (List.getElem?_eq_none_iff.mp hend)
    · rename_i e he
      have hprogress := visitEntry_progress he
      exact .visited s place e _ he (walkFrom_walk fuel _ _ (by omega))

/-! ## A visit (R41, R42) -/

/-- An entry's state is set where it stands. -/
theorem setEntryState_eq {s : State} {place : Nat} {e : WaitEntry} (he : s.waitList[place]? = some e)
    (state : EntryState) :
    s.setEntryState place state = { s with waitList := s.waitList.set place { e with state := state } } := by
  have hmodify := List.modify_eq_set_getElem? (fun e : WaitEntry => { e with state := state }) place s.waitList
  rw [he] at hmodify
  exact congrArg s.setWaitList hmodify

section
variable {s : State} {place : Nat} {e : WaitEntry}

/-- A visit to an entry that only room, or a QUEUED one that anything, stands in the way of. -/
theorem visitEntry_earlier (h : s.obstacle (s.waitList.take place) e.claim = some .earlier) (hstate : e.state ≠ .recalling) :
    s.visitEntry place e = (s.setEntryState place (.queued .earlier), place + 1) := by
  unfold State.visitEntry
  rw [h]
  cases hs : e.state with
  | queued b => rfl
  | recalling => exact absurd hs hstate

theorem visitEntry_barrier (h : s.obstacle (s.waitList.take place) e.claim = some .barrier) (hstate : e.state ≠ .recalling) :
    s.visitEntry place e = (s.setEntryState place (.queued .barrier), place + 1) := by
  unfold State.visitEntry
  rw [h]
  cases hs : e.state with
  | queued b => rfl
  | recalling => exact absurd hs hstate

theorem visitEntry_records (h : s.obstacle (s.waitList.take place) e.claim = some .records) (hstate : e.state ≠ .recalling) :
    s.visitEntry place e = ((s.setEntryState place .recalling).recallConflicts e.claim, place + 1) := by
  unfold State.visitEntry
  rw [h]
  cases hs : e.state with
  | queued b => rfl
  | recalling => exact absurd hs hstate

/-- A RECALLING entry that a barrier or records stand in the way of stays as it is. -/
theorem visitEntry_recalling (hstate : e.state = .recalling)
    (h : s.obstacle (s.waitList.take place) e.claim = some .barrier ∨
      s.obstacle (s.waitList.take place) e.claim = some .records) : s.visitEntry place e = (s, place + 1) := by
  unfold State.visitEntry
  rw [hstate]
  rcases h with h | h <;> rw [h]

theorem visitEntry_room (h : s.obstacle (s.waitList.take place) e.claim = some .room) :
    s.visitEntry place e = (s.setEntryState place (.queued .noRecord), place + 1) := by
  unfold State.visitEntry
  rw [h]

theorem visitEntry_grantable (h : s.obstacle (s.waitList.take place) e.claim = none) : s.visitEntry place e =
    ((s.setWaitList (s.waitList.eraseIdx place)).grant e.claim e.tag e.epoch, place) := by
  unfold State.visitEntry
  rw [h]

end

/-! ## A grant, in the words of the statements (R18, R19, R38) -/

/-- `s` with a claim of agent `a` granted: its reply placed, the grant counted, and `records` in the table under the token
issued. -/
def grantedState (s : State) (a : AgentId) (x : TaggedReply) (records : List GrantRecord) : State :=
  { withSession (replied s a x) a
      { s.session a with counters := { (s.session a).counters with
          grantsIssued := countUp (s.session a).counters.grantsIssued } } with
    grantTable := { records := records, counter := s.grantTable.counter + 1 } }

theorem grant_acquire_eq {s : State} {c : Claim} {slot : Nat} (tag epoch : Nat) (hkind : c.kind = .acquire)
    (hslot : LowestFree s slot) : s.grant c tag epoch =
      grantedState s c.agent { tag := tag, reply := .granted (s.grantTable.counter + 1) c.extent c.mode }
        (insertRecord (c.newRecord slot (s.grantTable.counter + 1) epoch) s.grantTable.records) := by
  rw [grant_acquire hkind (freeSlot_lowest hslot)]
  rfl

theorem grant_convert_eq {s : State} {c : Claim} {r : GrantRecord} (tag epoch : Nat) (hi : IndexLaw s)
    (hr : r ∈ s.grantTable.records) (hkind : c.kind = .convert r.slot) : s.grant c tag epoch =
      grantedState s c.agent { tag := tag, reply := .converted (s.grantTable.counter + 1) .exclusive }
        (s.grantTable.records.map fun q =>
          if q = r then { r with mode := .exclusive, token := s.grantTable.counter + 1 } else q) := by
  rw [grant_convert hkind, ← map_slot hi hr fun q => { q with mode := .exclusive, token := s.grantTable.counter + 1 }]
  rfl

end Sys2Proof.Laws
end

section
/-!
The statement about the walk of the Wait List.
-/

namespace Sys2Proof.Proofs

open Sys2Proof.Machine Sys2Proof.Safety Sys2Proof.Laws

/-- Settles O18: every operation of a walk is within its effect, every visit leaves its entry behind, and a visit decides by
the first obstacle. -/
theorem walkDecidesAndChangesOnlyItsOwn : Obligations.WalkDecidesAndChangesOnlyItsOwn := by
  refine ⟨fun s => ⟨walkFrom_walkEffect _ _ s, walkFrom_walk _ _ s (by omega)⟩, fun s place e he => ?_⟩
  refine ⟨fun hearlier hstate => ?_, fun hbarrier => ⟨fun hstate => ?_, fun hstate => ?_⟩,
    fun hrecords => ⟨fun hstate => ?_, fun hstate => ?_⟩, fun hroom => ?_, fun hnone => ⟨fun hkind slot hslot => ?_,
      fun r hi hr hkind => ?_⟩⟩
  · exact (visitEntry_earlier hearlier hstate).trans (by rw [setEntryState_eq he])
  · exact (visitEntry_barrier hbarrier hstate).trans (by rw [setEntryState_eq he])
  · exact visitEntry_recalling hstate (.inl hbarrier)
  · exact (visitEntry_records hrecords hstate).trans (by rw [setEntryState_eq he])
  · exact visitEntry_recalling hstate (.inr hrecords)
  · exact (visitEntry_room hroom).trans (by rw [setEntryState_eq he])
  · rw [visitEntry_grantable hnone,
      grant_acquire_eq (s := s.setWaitList (s.waitList.eraseIdx place)) e.tag e.epoch hkind hslot]
    rfl
  · rw [visitEntry_grantable hnone,
      grant_convert_eq (s := s.setWaitList (s.waitList.eraseIdx place)) e.tag e.epoch hi hr hkind]
    rfl

end Sys2Proof.Proofs
end


section
/-!
SUPPORT. Every law at power-on: the tables, queues and windows are empty and the parameters stand at their power-on values.
-/

namespace Sys2Proof.Laws

set_option Elab.async false

open Sys2Proof.Machine Sys2Proof.Safety

theorem reset_entriesOf (a : AgentId) : State.reset.entriesOf a = [] := rfl

theorem reset_deadlineLaw : DeadlineLaw State.reset :=
  ⟨fun _ he => absurd he List.not_mem_nil, fun _ hr => absurd hr List.not_mem_nil, fun _ _ _ => Nat.zero_le _⟩

theorem reset_reportQueueLaw : ReportQueueLaw State.reset :=
  ⟨Nat.zero_le _, fun h => h, fun _ => rfl, Nat.zero_le _⟩

theorem reset_controlLaneLaw : ControlLaneLaw State.reset := fun a => by
  simp [AgentLink.powerOn]

theorem reset_ingressLaw : IngressLaw State.reset := by
  refine ⟨fun a => ?_, .inr rfl⟩
  rw [reset_link]
  exact ⟨.inr rfl, .inr rfl⟩

theorem reset_egressLaw : EgressLaw State.reset := by
  refine ⟨fun a => ?_, Nat.le_refl 0⟩
  rw [reset_link, reset_session]
  exact ⟨Nat.le_refl 0, Nat.zero_le _⟩

theorem reset_replySlotLaw : ReplySlotLaw State.reset := by
  refine ⟨fun a => ?_, rfl, Nat.zero_le _⟩
  rw [reset_link, reset_entriesOf]
  exact ⟨rfl, Nat.zero_le _⟩

theorem reset_settings (g : GroupId) : State.reset.churn.groups.get g = .powerOn := by
  cases g using Fin.cases <;> rfl

theorem reset_churnLaw : ChurnLaw State.reset := by
  refine ⟨fun g => ?_, fun a => ?_, fun _ a => ?_⟩
  · rw [reset_settings]
    decide
  · rw [reset_member]
    exact Nat.zero_le _
  · rw [reset_member]

theorem reset_paramLaw : ParamLaw State.reset := by
  unfold ParamLaw
  decide

theorem reset_waitListLaw : WaitListLaw State.reset :=
  ⟨Nat.zero_le _, fun _ he => absurd he List.not_mem_nil, .nil⟩

theorem reset_recallLaw : RecallLaw State.reset := fun _ hr => absurd hr List.not_mem_nil

theorem reset_sendListLaw : SendListLaw State.reset := fun a => by simp

theorem reset_sweepLaw : SweepLaw State.reset :=
  ⟨fun _ hr => absurd hr List.not_mem_nil, fun _ hw => absurd hw (Option.some_ne_none _).symm⟩

theorem reset_recallingEntryLaw : RecallingEntryLaw State.reset := fun _ _ he =>
  absurd (List.mem_of_getElem? he) List.not_mem_nil

theorem reset_noneGrantable : NoneGrantable State.reset := fun _ _ he =>
  absurd (List.mem_of_getElem? he) List.not_mem_nil

end Sys2Proof.Laws
end

section
/-!
The statement about power-on.
-/

namespace Sys2Proof.Proofs

open Sys2Proof.Machine Sys2Proof.Safety Sys2Proof.Laws

/-- Settles O4, law by law. -/
theorem lawsHoldAtReset : Obligations.LawsHoldAtReset := by
  obtain ⟨hlease, hextent⟩ := (leasesSound_iff _).mp reset_leasesSound
  exact ⟨Nat.zero_le _, reset_deadlineLaw, reset_reportQueueLaw, reset_controlLaneLaw, reset_ingressLaw, reset_egressLaw,
    reset_replySlotLaw, reset_churnLaw, reset_paramLaw, ⟨hlease, hextent, reset_unconfiguredLaw⟩, reset_waitListLaw,
    reset_sessionLaw, reset_epochLaw, reset_recallLaw, reset_sendListLaw, reset_sweepLaw, reset_recallingEntryLaw,
    reset_noneGrantable⟩

end Sys2Proof.Proofs
end


section
/-!
SUPPORT. CONVERT in both directions, the downgrade of a record its holder's token cites, and a closing frame taken in session.
-/

namespace Sys2Proof.Laws

set_option Elab.async false

open Sys2Proof.Machine Sys2Proof.Safety

variable {s : State} {a : AgentId} {rest : List (Frame AnswerableKind)} {f : Frame AnswerableKind} {r : GrantRecord}

/-- The downgrade of a record of agent `a`, the Churn Monitor handed its outcome if it was recalled (R23, R120). -/
theorem downgradeRecord_cites {token : Nat} (hi : IndexLaw s) (h : Cites s a token r) : s.downgradeRecord r =
    if r.recallRecord.isSome then churned (downgraded s r) a .recalled else downgraded s r := by
  obtain ⟨hmem, -, hholder, -⟩ := h
  obtain ⟨-, hslots, -⟩ := hi
  rw [downgradeRecord_eq s r fun q hq => slot_unique hslots hq hmem, recordOutcome_eq, hholder]

/-- A CONVERT to SHARED that has passed its tests is the downgrade, whatever its max-wait (R46). -/
theorem exec_convert_shared {w : Nat} (hi : IndexLaw s) (h : ConvertReady s a f rest r .shared w) :
    exec (.convert a) s = .next ((held s a rest).convertDown a f.tag r) := by
  obtain ⟨hhead, hin, hasks, htag, hcites, hmode, hfree⟩ := h
  have hcheck := sessionCheck_pass (inSession_held (rest := rest) hin)
  have htagPasses : (held s a rest).tagPasses a f.tag = true := (tagPasses_iff _ _ _).mpr htag
  have hlookup : (held s a rest).lookup a r.token = some r :=
    lookup_cites (s := held s a rest) hi (cites_held.mpr hcites)
  have hwaits : ((held s a rest).waitList.any fun e => e.converts a r.slot) = false := (converts_any _ _ _).mpr hfree
  simp only [exec, execConvert, onAnswerable_head _ hhead, afterTakingAnswerable_inSession hhead hin, State.handleConvert,
    hcheck, convertFields_some hasks, htagPasses, if_true, State.convertSubject, hlookup, if_neg hmode, hwaits,
    Bool.false_eq_true, if_false]

/-- A reply placed fills a RESERVED slot (R145). -/
theorem placeReply_eq (s : State) (a : AgentId) (tag : Nat) (reply : AgentReply) :
    s.placeReply a tag reply = replied s a { tag := tag, reply := reply } := rfl

/-- A reply that fills the slot its taking reserved. -/
theorem replied_held (s : State) (a : AgentId) (rest : List (Frame AnswerableKind)) (x : TaggedReply) :
    replied (held s a rest) a x = answered s a rest x := placeReply_held s a rest x.tag x.reply

variable {closingRest : List (Frame ClosingKind)} {closing : Frame ClosingKind}

/-- A closing frame taken in session reaches the rule of its kind. -/
theorem onClosing_inSession {k : ClosingKind} (act : State → Frame ClosingKind → State)
    (hhead : ClosingHead s a k closing closingRest) (hin : InSession s a closing.epoch)
    (hlength : closing.body.length = k.bodyLength) :
    s.onClosing a k act = act (closed s a closingRest) closing := by
  obtain ⟨-, hkind, -⟩ := id hhead
  rw [onClosing_head act hhead, afterTakingClosing_inSession hhead hin,
    closingChecks_pass act (inSession_closed hin) (hkind.symm ▸ hlength)]

/-! ## The rules of RELEASE and DOWNGRADE (R22, R24) -/

section
variable {t : State}

theorem handleRelease_none (hnone : ∀ r, ¬Cites t a (tokenField closing.body) r) :
    State.handleRelease a t closing = t.protocolError a .badRelease closing.kind.code := by
  unfold State.handleRelease
  rw [lookup_none hnone]

theorem handleRelease_cites (hi : IndexLaw t) (hcites : Cites t a (tokenField closing.body) r) :
    State.handleRelease a t closing =
      ((churned (released t r) a (releaseOutcome r)).dropConvert a r.slot .grantLost).reevaluate := by
  obtain ⟨-, -, hholder, -⟩ := id hcites
  unfold State.handleRelease
  rw [lookup_cites hi hcites]
  dsimp only
  rw [removeRecord_release, recordOutcome_eq, hholder]

theorem handleDowngrade_none (hnone : ∀ r, ¬Cites t a (tokenField closing.body) r) :
    State.handleDowngrade a t closing = t.protocolError a .badDowngrade closing.kind.code := by
  unfold State.handleDowngrade
  rw [lookup_none hnone]

theorem handleDowngrade_shared (hi : IndexLaw t) (hcites : Cites t a (tokenField closing.body) r)
    (hmode : r.mode = .shared) : State.handleDowngrade a t closing = t.lateFrame a := by
  unfold State.handleDowngrade
  rw [lookup_cites hi hcites]
  dsimp only
  rw [hmode]

theorem handleDowngrade_exclusive (hi : IndexLaw t) (hcites : Cites t a (tokenField closing.body) r)
    (hmode : r.mode = .exclusive) : State.handleDowngrade a t closing =
      (if r.recallRecord.isSome then churned (downgraded t r) a .recalled else downgraded t r).reevaluate := by
  unfold State.handleDowngrade
  rw [lookup_cites hi hcites]
  dsimp only
  rw [hmode, ← downgradeRecord_cites hi hcites]

end

end Sys2Proof.Laws
end

section
/-!
The statements about CONVERT, RELEASE and DOWNGRADE.
-/

namespace Sys2Proof.Proofs

open Sys2Proof.Machine Sys2Proof.Safety Sys2Proof.Laws

/-- Settles O39: with nothing in the way the CONVERT reaches the grant, which upgrades its subject. -/
theorem convertUpgrades : Obligations.ConvertUpgrades := by
  intro s a f rest r w hi hready hheld hfree
  obtain ⟨-, -, -, -, ⟨hmem, -⟩, -⟩ := id hready
  have hgranted : (held s a rest).convertUp a f.tag f.epoch w r =
      (held s a rest).grant (convertClaim a r) f.tag f.epoch := by
    unfold State.convertUp
    rw [hheld]
    exact admission_granted ((held_obstacle ..).trans hfree)
  rw [exec_convert hi hready, hgranted, grant_convert_eq (s := held s a rest) f.tag f.epoch hi hmem rfl]
  unfold grantedState
  dsimp only [convertClaim]
  rw [replied_held, held_session]
  rfl

/-- Settles O40: the downgrade of the cited record, the walk, and the reply. -/
theorem convertDowngrades : Obligations.ConvertDowngrades := by
  intro s a f rest r w hi hready down
  obtain ⟨-, -, -, -, hcites, -⟩ := id hready
  rw [exec_convert_shared hi hready, State.convertDown,
    downgradeRecord_cites (s := held s a rest) hi (cites_held.mpr hcites), placeReply_eq]


/-- Settles O45: the token cites a record or not; its removal, the outcome, the waiting CONVERT's answer and the walk. -/
theorem releaseRemovesRecord : Obligations.ReleaseRemovesRecord := by
  intro s a f rest hi hhead hin hlength c token
  have hexec : exec (.release a) s = .next (State.handleRelease a (closed s a rest) f) :=
    congrArg Host.Outcome.next (onClosing_inSession _ hhead hin hlength)
  obtain ⟨-, hkind, -⟩ := id hhead
  refine ⟨fun hnone => ?_, fun r hcites => ?_⟩
  · rw [hexec, handleRelease_none fun r hr => hnone r (cites_closed.mp hr), protocolError_closed, hkind]
    rfl
  · intro gone
    have hgone : exec (.release a) s = .next (gone.dropConvert a r.slot .grantLost).reevaluate := by
      rw [hexec, handleRelease_cites (t := closed s a rest) hi (cites_closed.mpr hcites)]
      rfl
    have hwaitList : gone.waitList = s.waitList := churned_waitList ..
    refine ⟨fun hfree => ?_, fun before e after hsplit hagent hconverts hbefore => ?_⟩
    · rw [hgone, dropConvert_none (hwaitList ▸ hfree)]
    · rw [hgone, dropConvert_some (hwaitList.trans hsplit) hagent hconverts hbefore]

/-- Settles O46: the token cites a record or not, and the record is SHARED or EXCLUSIVE. -/
theorem downgradeSharesRecord : Obligations.DowngradeSharesRecord := by
  intro s a f rest hi hhead hin hlength c token counting
  have hexec : exec (.downgrade a) s = .next (State.handleDowngrade a (closed s a rest) f) :=
    congrArg Host.Outcome.next (onClosing_inSession _ hhead hin hlength)
  obtain ⟨-, hkind, -⟩ := id hhead
  refine ⟨fun hnone => ?_, fun r hcites hmode => ?_, fun r hcites hmode => ?_⟩
  · rw [hexec, handleDowngrade_none fun r hr => hnone r (cites_closed.mp hr), protocolError_closed, hkind]
    rfl
  · rw [hexec, handleDowngrade_shared (t := closed s a rest) hi (cites_closed.mpr hcites) hmode, lateFrame_closed]
  · rw [hexec, handleDowngrade_exclusive (t := closed s a rest) hi (cites_closed.mpr hcites) hmode]

end Sys2Proof.Proofs
end


section
/-!
SUPPORT. Recall requests: which records a claim asks for, and what each request comes to (R35, R58).
-/

namespace Sys2Proof.Laws

set_option Elab.async false

open Sys2Proof.Machine Sys2Proof.Safety

theorem conflicting_eq (s : State) (c : Claim) : s.conflicting c =
    s.grantTable.records.filter fun r => decide (c.kind ≠ .convert r.slot ∧ c.agent ≠ r.holder ∧
      c.extent.overlaps r.extent = true ∧ (c.mode = .exclusive ∨ r.mode = .exclusive)) :=
  List.filter_congr fun r _ => Bool.eq_iff_iff.mpr ((hitsRecord_iff c r).trans (decide_eq_true_iff).symm)

theorem wantedFor_eq (m : Mode) : wantedFor m = if m = .exclusive then .release else .downgrade := by
  cases m <;> rfl

section
variable {s : State} {r : GrantRecord} {wanted : Wanted} {cause : RecallCause}

/-- A request to recall a HELD record issues a recall (R59). -/
theorem requestRecall_held (hi : IndexLaw s) (hr : r ∈ s.grantTable.records) (hheld : r.recallRecord = none) :
    s.requestRecall r.slot wanted cause = s.issueRecall r wanted cause := by
  unfold State.requestRecall
  rw [recordAt_eq hi hr]
  dsimp only
  rw [hheld]

/-- A request to recall a record under a recall escalates it or changes nothing (R58). -/
theorem requestRecall_recalled {rc : RecallRecord} (hi : IndexLaw s) (hr : r ∈ s.grantTable.records)
    (hrc : r.recallRecord = some rc) : s.requestRecall r.slot wanted cause =
      if rc.wanted = .downgrade ∧ wanted = .release then s.escalateRecall r rc cause else s := by
  unfold State.requestRecall
  rw [recordAt_eq hi hr]
  dsimp only
  rw [hrc]

/-- A record's recall is set in the table, at that record alone. -/
theorem modRecord_withRecall (hi : IndexLaw s) (hr : r ∈ s.grantTable.records) (rc : RecallRecord) :
    s.modRecord r.slot (fun x => x.withRecall (some rc)) =
      s.setRecords (s.grantTable.records.map fun q => if q = r then { r with recallRecord := some rc } else q) :=
  congrArg s.setRecords (map_slot hi hr _)

end

end Sys2Proof.Laws
end

section
/-!
The statement about recall requests.
-/

namespace Sys2Proof.Proofs

open Sys2Proof.Machine Sys2Proof.Safety Sys2Proof.Laws

/-- Settles O48: the records asked for, and the rows of the table of R58. -/
theorem recallRequestsHandled : Obligations.RecallRequestsHandled := by
  refine ⟨fun s c => ?_, fun s r wanted cause hi hr => ?_⟩
  · unfold State.recallConflicts
    rw [conflicting_eq, wantedFor_eq]
  · intro h x with_ message issued
    refine ⟨fun hheld => ?_, fun rc hrc => ⟨fun hdowngrade hrelease => ?_, fun hother => ?_⟩⟩
    · have hissued : s.requestRecall r.slot wanted cause = issued.dropConvert h r.slot .recalled := by
        rw [requestRecall_held hi hr hheld]
        unfold State.issueRecall
        dsimp only
        rw [modRecord_withRecall hi hr]
        rfl
      exact ⟨fun hfree => hissued.trans (dropConvert_none hfree),
        fun before e after hsplit hagent hconverts hbefore =>
          hissued.trans (dropConvert_some hsplit hagent hconverts hbefore)⟩
    · rw [requestRecall_recalled hi hr hrc, if_pos ⟨hdowngrade, hrelease⟩]
      unfold State.escalateRecall
      rw [modRecord_withRecall hi hr]
      rfl
    · rw [requestRecall_recalled hi hr hrc, if_neg hother]

end Sys2Proof.Proofs
end


section
/-!
SUPPORT. The body of a CONFIGURE: when it is in range, what it asks for, and the directory that results (R162, R182).
-/

namespace Sys2Proof.Laws

set_option Elab.async false

open Sys2Proof.Machine Sys2Proof.Safety

variable {body : List Byte}

/-- The four setting bytes of a group at an offset lie in their ranges (R118, R182). -/
def GroupInRange (body : List Byte) (o : Nat) : Prop :=
  field body o 1 ≤ 1 ∧ 1 ≤ field body (o + 1) 1 ∧ field body (o + 1) 1 ≤ 64 ∧ 1 ≤ field body (o + 2) 1 ∧
  field body (o + 2) 1 ≤ field body (o + 1) 1 ∧ field body (o + 3) 1 ≤ 1

/-- A CONFIGURE body of the right length with every field in range (R162, R182). -/
def ConfigureInRange (body : List Byte) : Prop :=
  body.length = 39 ∧ (1 ≤ field body 0 8 ∧ field body 0 8 ≤ 2 ^ 48) ∧ (50 ≤ field body 8 2 ∧ field body 8 2 ≤ 60000) ∧
  (5 ≤ field body 10 2 ∧ field body 10 2 ≤ 10000) ∧ (1 ≤ field body 12 1 ∧ field body 12 1 ≤ 8) ∧
  (1 ≤ field body 13 1 ∧ field body 13 1 ≤ 16) ∧ (∀ a : AgentId, field body (15 + a.val) 1 ≤ 1) ∧
  GroupInRange body 23 ∧ GroupInRange body 27

theorem groupFields_inRange (o : Nat) : (groupFields body o).inRange = true ↔ GroupInRange body o := by
  simp only [GroupFields.inRange, Bool.and_eq_true, decide_eq_true_eq]
  simp only [groupFields, GroupInRange]
  tauto

theorem configGroupBytes_inRange :
    (allAgents.all fun a => configGroupByte body a ≤ 1) = true ↔ ∀ a : AgentId, field body (15 + a.val) 1 ≤ 1 := by
  simp only [List.all_eq_true, mem_allAgents, forall_true_left, decide_eq_true_eq]
  exact Iff.rfl

/-- What a CONFIGURE body in range asks for (section 9.5). -/
def configureAsks (body : List Byte) : ConfigureFields :=
  { params :=
      { volume := field body 0 8, leasePeriod := field body 8 2, recallTimeout := field body 10 2,
        attemptLimit := field body 12 1, reportWindow := field body 13 1 }
    admitMask := BitVec.ofNat 8 (field body 14 1)
    groupOf := allAgents.foldl (fun p a => p.set a (if configGroupByte body a = 1 then 1 else 0)) (PerAgent.const 0)
    groups := ⟨(groupFields body 23).settings, (groupFields body 27).settings⟩
    tokenFloor := field body 31 8 }

theorem configureFields_inRange (h : ConfigureInRange body) : configureFields body = some (configureAsks body) := by
  obtain ⟨hlength, hvolume, hlease, htimeout, hattempts, hwindow, hgroups, hgroup0, hgroup1⟩ := h
  refine if_pos ⟨hlength, ?_, ?_, ?_, ?_, ?_, configGroupBytes_inRange.mpr hgroups, (groupFields_inRange 23).mpr hgroup0,
    (groupFields_inRange 27).mpr hgroup1⟩
  · simpa [volumeInRange, Config.blockLimit] using hvolume
  · simpa [leaseInRange] using hlease
  · simpa [recallTimeoutInRange] using htimeout
  · simpa [attemptLimitInRange] using hattempts
  · simpa [reportWindowInRange] using hwindow

theorem configureFields_outOfRange (h : ¬ConfigureInRange body) : configureFields body = none := by
  refine if_neg fun hrange => h ?_
  obtain ⟨hlength, hvolume, hlease, htimeout, hattempts, hwindow, hgroups, hgroup0, hgroup1⟩ := hrange
  refine ⟨hlength, ?_, ?_, ?_, ?_, ?_, configGroupBytes_inRange.mp hgroups, (groupFields_inRange 23).mp hgroup0,
    (groupFields_inRange 27).mp hgroup1⟩
  · simpa [volumeInRange, Config.blockLimit] using hvolume
  · simpa [leaseInRange] using hlease
  · simpa [recallTimeoutInRange] using htimeout
  · simpa [attemptLimitInRange] using hattempts
  · simpa [reportWindowInRange] using hwindow

/-- The group a CONFIGURE gives an agent. -/
theorem configureAsks_group (b : AgentId) :
    (configureAsks body).groupOf.get b = if field body (15 + b.val) 1 = 1 then 1 else 0 := by
  have hget := foldl_modify_get (fun a (_ : GroupId) => if configGroupByte body a = 1 then 1 else 0) b (l := allAgents)
    (PerAgent.const 0) (by decide)
  rw [if_pos (mem_allAgents b)] at hget
  exact hget

/-- Each agent's session record after CONFIGURE: `admitFlag` and the group from the body. -/
theorem applyConfigure_sessions (s : State) : (s.applyConfigure (configureAsks body)).sessions =
    ⟨Vector.ofFn fun a : Fin 8 =>
      { s.session a with
        admitFlag := (BitVec.ofNat 8 (field body 14 1)).getLsbD a.val
        group := if field body (15 + a.val) 1 = 1 then 1 else 0 }⟩ := by
  apply PerAgent.ext_get
  intro b
  have hsession := applyConfigure_session s (configureAsks body) b
  rw [configureAsks_group] at hsession
  refine hsession.trans ?_
  simp [PerAgent.get, configureAsks]

/-- Two states are the same where their sessions are and the rest is. -/
theorem eq_of_sessions_eq {s t : State} (hsessions : s.sessions = t.sessions)
    (hrest : { s with sessions := t.sessions } = t) : s = t :=
  (congrArg (fun sessions => { s with sessions := sessions }) hsessions).trans hrest

theorem runConfigure_outOfRange {t : State} (hstate : t.management.state = .unconfigured) (h : ¬ConfigureInRange body) :
    t.runConfigure body = .refuse .badParam := by
  unfold State.runConfigure
  rw [if_neg (not_not.mpr hstate), configureFields_outOfRange h]

theorem runConfigure_inRange {t : State} (hstate : t.management.state = .unconfigured) (h : ConfigureInRange body) :
    t.runConfigure body = .done (t.applyConfigure (configureAsks body)) .empty := by
  unfold State.runConfigure
  rw [if_neg (not_not.mpr hstate), configureFields_inRange h]

/-- A CONFIGURE answered: its tests, against the state once the command is taken. -/
theorem exec_configure {s : State} {f : Frame CommandKind} {rest : List (Frame CommandKind)}
    (h : CommandHead s .configure f rest) : exec .configure s =
      .next (s.afterTakingCommand.answer f.tag (s.afterTakingCommand.runConfigure f.body)) :=
  congrArg Host.Outcome.next (onCommand_head _ h)

end Sys2Proof.Laws
end

section
/-!
The statement about CONFIGURE.
-/

namespace Sys2Proof.Proofs

open Sys2Proof.Machine Sys2Proof.Safety Sys2Proof.Laws

/-- Settles O52: the tests in order, and the effect of a body in range. -/
theorem configureStartsDirectory : Obligations.ConfigureStartsDirectory := by
  intro s f rest hhead n goodGroup good group
  refine ⟨fun hstate => ?_, fun hstate hbad => ?_, fun hstate hgood => ?_⟩
  · have hrun : s.afterTakingCommand.runConfigure f.body = .refuse .wrongState := if_pos hstate
    rw [exec_configure hhead, hrun, answer_refuse hhead]
  · have hrun : s.afterTakingCommand.runConfigure f.body = .refuse .badParam := runConfigure_outOfRange hstate hbad
    rw [exec_configure hhead, hrun, answer_refuse hhead]
  · have hrun : s.afterTakingCommand.runConfigure f.body = _ := runConfigure_inRange hstate hgood
    rw [exec_configure hhead, hrun, answer_done, afterTakingCommand_head hhead]
    exact congrArg Host.Outcome.next
      (eq_of_sessions_eq (applyConfigure_sessions (body := f.body) (commandTaken s rest)) rfl)

end Sys2Proof.Proofs
end


section
/-!
SUPPORT. The range walk: the selected records stand in groups of one start, each after the group before, and a walk takes
whole groups from the front for as long as they fit (R14).
-/

namespace Sys2Proof.Laws

set_option Elab.async false

open Sys2Proof.Machine Sys2Proof.Safety

/-- The groups that fit, and the first that does not. -/
theorem takeGroups_split {α : Type} : ∀ (room : Nat) (groups : List (List α)), ∃ taken left, groups = taken ++ left ∧
    takeGroups room groups = taken.flatten ∧ taken.flatten.length ≤ room ∧
    ∀ g rest, left = g :: rest → room < taken.flatten.length + g.length
  | room, [] => ⟨[], [], rfl, rfl, Nat.zero_le _, fun _ _ h => absurd h (List.cons_ne_nil _ _).symm⟩
  | room, g :: groups => by
    by_cases hfits : g.length ≤ room
    · obtain ⟨taken, left, hsplit, htaken, hlength, hstop⟩ := takeGroups_split (room - g.length) groups
      refine ⟨g :: taken, left, congrArg (g :: ·) hsplit, ?_, ?_, fun h rest hleft => ?_⟩
      · rw [takeGroups, if_pos hfits, htaken, List.flatten_cons]
      · rw [List.flatten_cons, List.length_append]
        omega
      · have := hstop h rest hleft
        rw [List.flatten_cons, List.length_append]
        omega
    · refine ⟨[], g :: groups, rfl, ?_, Nat.zero_le _, fun h rest hleft => ?_⟩
      · rw [takeGroups, if_neg hfits, List.flatten_nil]
      · obtain ⟨rfl, -⟩ := List.cons.inj hleft
        rw [List.flatten_nil, List.length_nil]
        omega

/-- Records of one start, in their order. -/
def startGroups (l : List GrantRecord) : List (List GrantRecord) := l.splitBy fun r p => r.extent.start = p.extent.start

theorem walkRecords_eq (records : List GrantRecord) (q : Extent) (resumeAt : Nat) :
    walkRecords records q resumeAt = takeGroups Config.descriptorLimit (startGroups (selectRecords records q resumeAt)) :=
  rfl

theorem startGroups_flatten (l : List GrantRecord) : (startGroups l).flatten = l := List.flatten_splitBy ..

theorem startGroups_ne_nil {l g : List GrantRecord} (hg : g ∈ startGroups l) : g ≠ [] := fun h =>
  List.nil_notMem_splitBy _ l (h ▸ hg)

/-- The records of a group have one start. -/
theorem startGroups_same {l g : List GrantRecord} (hg : g ∈ startGroups l) {r q : GrantRecord} (hr : r ∈ g) (hq : q ∈ g) :
    r.extent.start = q.extent.start := by
  have hchain : (g.map fun p => p.extent.start).IsChain (· = ·) :=
    (List.isChain_map _).mpr ((List.isChain_of_mem_splitBy hg).imp fun _ _ h => of_decide_eq_true h)
  exact hchain.pairwise.forall_of_forall (fun _ _ => rfl) (List.mem_map_of_mem hr) (List.mem_map_of_mem hq)

/-- All of one group starts before all of another, neither of them empty. -/
def StartsBefore (g h : List GrantRecord) : Prop :=
  h ≠ [] ∧ ∀ r ∈ g, ∀ q ∈ h, r.extent.start < q.extent.start

theorem StartsBefore.trans {g h k : List GrantRecord} (h1 : StartsBefore g h) (h2 : StartsBefore h k) :
    StartsBefore g k := by
  obtain ⟨hne, hgh⟩ := h1
  obtain ⟨p, hp⟩ := List.exists_mem_of_ne_nil h hne
  exact ⟨h2.1, fun r hr q hq => (hgh r hr p hp).trans (h2.2 p hp q hq)⟩

/-- Over records ordered by start each group starts before those after it. -/
theorem startGroups_pairwise {l : List GrantRecord} (hl : l.Pairwise fun r q => r.extent.start ≤ q.extent.start) :
    (startGroups l).Pairwise StartsBefore := by
  have : Trans StartsBefore StartsBefore StartsBefore := ⟨StartsBefore.trans⟩
  rw [← startGroups_flatten l] at hl
  obtain ⟨-, hordered⟩ := List.pairwise_flatten.mp hl
  have hapart := List.isChain_iff_getElem.mp (List.isChain_getLast_head_splitBy
    (fun r p : GrantRecord => decide (r.extent.start = p.extent.start)) l)
  refine List.IsChain.pairwise (List.isChain_iff_getElem.mpr fun i hi => ?_)
  obtain ⟨hg, hh, hne⟩ := hapart i hi
  refine ⟨hh, fun r hr q hq => ?_⟩
  have hle := List.pairwise_iff_getElem.mp hordered i (i + 1) (by omega) hi (Nat.lt_succ_self i) _ (List.getLast_mem hg) _
    (List.head_mem hh)
  have hlast := startGroups_same (List.getElem_mem _) hr (List.getLast_mem hg)
  have hhead := startGroups_same (List.getElem_mem _) hq (List.head_mem hh)
  have hdistinct := of_decide_eq_false hne
  omega

/-- Records in index order stand in the order of their starts. -/
theorem ordered_starts {l : List GrantRecord} (hl : l.Pairwise fun r q => r.before q = true) :
    l.Pairwise fun r q => r.extent.start ≤ q.extent.start :=
  hl.imp fun {r q} h => by
    rw [before_iff] at h
    omega

/-- What a range walk over an ordered index leaves: groups that start after all it returns, the first of which does not
fit. -/
theorem walkRecords_left {records : List GrantRecord} (hl : records.Pairwise fun r q => r.before q = true) (q : Extent)
    (resumeAt : Nat) : ∃ left : List (List GrantRecord),
      walkRecords records q resumeAt ++ left.flatten = selectRecords records q resumeAt ∧
      (walkRecords records q resumeAt).length ≤ Config.descriptorLimit ∧
      (∀ g ∈ left, g ∈ startGroups (selectRecords records q resumeAt)) ∧
      (∀ g rest, left = g :: rest → Config.descriptorLimit < (walkRecords records q resumeAt).length + g.length) ∧
      ∀ r ∈ walkRecords records q resumeAt, ∀ r' ∈ left.flatten, r.extent.start < r'.extent.start := by
  obtain ⟨taken, left, hsplit, htaken, hlength, hstop⟩ :=
    takeGroups_split Config.descriptorLimit (startGroups (selectRecords records q resumeAt))
  rw [walkRecords_eq, htaken]
  refine ⟨left, ?_, hlength, fun g hg => hsplit ▸ List.mem_append_right taken hg, hstop, fun r hr r' hr' => ?_⟩
  · rw [← List.flatten_append, ← hsplit, startGroups_flatten]
  · have hselected : (selectRecords records q resumeAt).Pairwise _ := ordered_starts (hl.sublist List.filter_sublist)
    have hgroups := startGroups_pairwise hselected
    rw [hsplit, List.pairwise_append] at hgroups
    obtain ⟨-, -, hacross⟩ := hgroups
    obtain ⟨g, hg, hrg⟩ := List.mem_flatten.mp hr
    obtain ⟨h, hh, hrh⟩ := List.mem_flatten.mp hr'
    obtain ⟨-, hbefore⟩ := hacross g hg h hh
    exact hbefore r hrg r' hrh

/-- The records of a group are among those of its start. -/
theorem length_le_countP_start {l g : List GrantRecord} {r : GrantRecord} (hg : g ∈ startGroups l) (hr : r ∈ g) :
    g.length ≤ l.countP fun q => q.extent.start = r.extent.start := by
  have hall : g.countP (fun q => q.extent.start = r.extent.start) = g.length :=
    List.countP_eq_length.mpr fun q hq => decide_eq_true (startGroups_same hg hq hr)
  have hsub : g.Sublist l := startGroups_flatten l ▸ List.sublist_flatten_of_mem hg
  exact hall ▸ hsub.countP_le

end Sys2Proof.Laws
end

section
/-!
The statement about the range walk.
-/

namespace Sys2Proof.Proofs

open Sys2Proof.Machine Sys2Proof.Safety Sys2Proof.Laws

/-- Settles O42: the walk takes the groups before the first that does not fit. -/
theorem rangeWalkReturnsWholeGroups : Obligations.RangeWalkReturnsWholeGroups := by
  intro records q p hordered selected got
  obtain ⟨left, hselected, hlength, hgroups, hstop, hafter⟩ := walkRecords_left hordered q p
  have hleading : got <+: selected := ⟨left.flatten, hselected⟩
  refine ⟨hleading, hlength, fun r hr r' hr' hstart => ?_, fun r rest hrest => ?_, ?_⟩
  · have hcases : r' ∈ got ++ left.flatten := hselected.symm ▸ hr'
    refine (List.mem_append.mp hcases).resolve_right fun hleft => ?_
    have hlt := hafter r hr r' hleft
    omega
  · have hleft : left.flatten = r :: rest := List.append_cancel_left (hselected.trans hrest)
    obtain ⟨g, groups, rfl⟩ : ∃ g groups, left = g :: groups := List.exists_cons_of_ne_nil fun h => by
      rw [h] at hleft
      exact absurd hleft (List.cons_ne_nil _ _).symm
    have hg : g ∈ startGroups selected := hgroups g List.mem_cons_self
    have hr : r ∈ g := by
      obtain ⟨x, g', rfl⟩ := List.exists_cons_of_ne_nil (startGroups_ne_nil hg)
      obtain ⟨rfl, -⟩ := List.cons.inj hleft
      exact List.mem_cons_self
    exact (hstop g groups rfl).trans_le (Nat.add_le_add_left (length_le_countP_start hg hr) _)
  · have hmore : walkMore records q p = true ↔ got.length < selected.length := decide_eq_true_iff
    rw [hmore]
    refine ⟨fun hlt heq => absurd (congrArg List.length heq) hlt.ne, fun hne => ?_⟩
    exact lt_of_le_of_ne hleading.length_le fun h => hne (hleading.eq_of_length h)

end Sys2Proof.Proofs
end

section
/-!
SUPPORT. What the rule of each request comes to once its frame is taken: refused by the session checks, or in session by
the tests of its kind.
-/

namespace Sys2Proof.Laws

open Sys2Proof.Machine Sys2Proof.Safety

variable {s : State} {a : AgentId} {rest : List (Frame AnswerableKind)} {f : Frame AnswerableKind}

/-! ## The session checks (R30) -/

/-- A frame of any kind but JOIN that the session checks refuse is answered with what they find. -/
theorem exec_sessionCheck_refused {k : AnswerableKind} {code : RefusalCode} (hk : k ≠ .join)
    (hhead : AnswerableHead s a k f rest)
    (hcheck : (s.afterTakingAnswerable a f.epoch).sessionCheck a f.epoch = some code) :
    exec (answerableCommand a k) s = .next ((s.afterTakingAnswerable a f.epoch).refuse a f.tag code) := by
  cases k with
  | join => exact absurd rfl hk
  | acquire => simp only [answerableCommand, exec, execAcquire, onAnswerable_head _ hhead, State.handleAcquire, hcheck]
  | convert => simp only [answerableCommand, exec, execConvert, onAnswerable_head _ hhead, State.handleConvert, hcheck]
  | query => simp only [answerableCommand, exec, execQuery, onAnswerable_head _ hhead, State.handleQuery, hcheck]
  | leave => simp only [answerableCommand, exec, execLeave, onAnswerable_head _ hhead, State.handleLeave, hcheck]

/-- Where the taking renews nothing either, only the link has changed. -/
theorem exec_turnedAway {k : AnswerableKind} {code : RefusalCode} (hk : k ≠ .join)
    (hhead : AnswerableHead s a k f rest)
    (hother : isActive (s.session a).state = true → f.epoch ≠ (s.session a).epoch)
    (hcheck : s.sessionCheck a f.epoch = some code) :
    exec (answerableCommand a k) s = .next (turnedAway s a rest { tag := f.tag, reply := .refused code }) := by
  have htaken := afterTakingAnswerable_other hhead hother
  rw [exec_sessionCheck_refused hk hhead (by rw [htaken]; exact hcheck), htaken, refuse_heldLink]

/-- What the session checks find of a configured directory, by the session's state (R30). -/
theorem sessionCheck_offline (hm : s.management.state ≠ .unconfigured) (hs : (s.session a).state = .offline)
    (epoch : Nat) : s.sessionCheck a epoch = some .notJoined := by
  simp only [State.sessionCheck, if_neg hm, hs]

theorem sessionCheck_fenced (hm : s.management.state ≠ .unconfigured) (hs : (s.session a).state = .fenced)
    (epoch : Nat) : s.sessionCheck a epoch = some .fenced := by
  simp only [State.sessionCheck, if_neg hm, hs]

theorem sessionCheck_staleEpoch {epoch : Nat} (hm : s.management.state ≠ .unconfigured)
    (hs : isActive (s.session a).state = true) (hepoch : epoch ≠ (s.session a).epoch) :
    s.sessionCheck a epoch = some .staleEpoch := by
  obtain ⟨d, hd⟩ := (isActive_iff _).mp hs
  simp only [State.sessionCheck, if_neg hm, hd, if_pos hepoch]

/-! ## A request in session (R32, R180) -/

/-- An ACQUIRE in session reaches its rule with its slot RESERVED. -/
theorem exec_acquire_inSession (hhead : AnswerableHead s a .acquire f rest) (hin : InSession s a f.epoch) :
    exec (.acquire a) s = .next (State.handleAcquire a (held s a rest) f) := by
  simp only [exec, execAcquire, onAnswerable_head _ hhead, afterTakingAnswerable_inSession hhead hin]

theorem exec_convert_inSession (hhead : AnswerableHead s a .convert f rest) (hin : InSession s a f.epoch) :
    exec (.convert a) s = .next (State.handleConvert a (held s a rest) f) := by
  simp only [exec, execConvert, onAnswerable_head _ hhead, afterTakingAnswerable_inSession hhead hin]

theorem exec_query_inSession (hhead : AnswerableHead s a .query f rest) (hin : InSession s a f.epoch) :
    exec (.query a) s = .next (State.handleQuery a (held s a rest) f) := by
  simp only [exec, execQuery, onAnswerable_head _ hhead, afterTakingAnswerable_inSession hhead hin]

@[simp] theorem held_tagPasses (tag : Nat) : (held s a rest).tagPasses a tag = s.tagPasses a tag := rfl

@[simp] theorem held_selfOverlaps (x : Extent) : (held s a rest).selfOverlaps a x = s.selfOverlaps a x := rfl

/-- An ACQUIRE that its field checks or self-overlap refuse (R32, R37). -/
theorem handleAcquire_refused (hin : InSession s a f.epoch) {q : AcquireFields} {code : RefusalCode}
    (hq : acquireFields f.body = some q) (hrefusal : s.acquireRefusal a f.tag q = some code) :
    State.handleAcquire a s f = s.refuse a f.tag code := by
  simp only [State.handleAcquire, sessionCheck_pass hin, hq, hrefusal]

/-- A bad tag, length or mode refuses an ACQUIRE (R32, R180). -/
theorem handleAcquire_badRequest (hin : InSession s a f.epoch)
    (hbad : ¬TagFree s a f.tag ∨ f.body.length ≠ 12 ∨ Mode.ofCode (field f.body 9 1) = none) :
    State.handleAcquire a s f = s.refuse a f.tag .badRequest := by
  rw [acquireFields_none] at hbad
  cases hq : acquireFields f.body with
  | none => simp only [State.handleAcquire, sessionCheck_pass hin, hq]
  | some q =>
    have htag : s.tagPasses a f.tag = false := (tagPasses_false ..).mpr (hbad.resolve_right (by simp [hq]))
    exact handleAcquire_refused hin hq (by simp [State.acquireRefusal, htag])

/-- The checks of R32 a CONVERT can fail. -/
theorem handleConvert_badRequest (hin : InSession s a f.epoch)
    (hbad : ¬TagFree s a f.tag ∨ f.body.length ≠ 11 ∨ Mode.ofCode (field f.body 8 1) = none) :
    State.handleConvert a s f = s.refuse a f.tag .badRequest := by
  rw [convertFields_none] at hbad
  cases hq : convertFields f.body with
  | none => simp only [State.handleConvert, sessionCheck_pass hin, hq]
  | some q =>
    have htag : s.tagPasses a f.tag = false := (tagPasses_false ..).mpr (hbad.resolve_right (by simp [hq]))
    simp [State.handleConvert, sessionCheck_pass hin, hq, htag]

/-- A CONVERT that passes them reaches the tests against its subject (R45). -/
theorem handleConvert_subject (hin : InSession s a f.epoch) {token w : Nat} {m : Mode} (hasks : ConvertAsks f token m w)
    (htag : TagFree s a f.tag) :
    State.handleConvert a s f = s.convertSubject a f.tag f.epoch { token := token, mode := m, maxWait := w } := by
  simp only [State.handleConvert, sessionCheck_pass hin, convertFields_some hasks, (tagPasses_iff ..).mpr htag, if_true]

theorem convertSubject_unknown {tag epoch : Nat} {q : ConvertFields} (hnone : ∀ r, ¬Cites s a q.token r) :
    s.convertSubject a tag epoch q = s.refuse a tag .unknownGrant := by
  simp only [State.convertSubject, lookup_none hnone]

/-- The mode the record has, or a CONVERT of it waiting already (R45). -/
theorem convertSubject_badRequest {tag epoch : Nat} {q : ConvertFields} {r : GrantRecord} (hi : IndexLaw s)
    (hcites : Cites s a q.token r)
    (hbad : q.mode = r.mode ∨ ∃ e ∈ s.waitList, e.agent = a ∧ e.kind = .convert r.slot) :
    s.convertSubject a tag epoch q = s.refuse a tag .badRequest := by
  simp only [State.convertSubject, lookup_cites hi hcites]
  by_cases hmode : q.mode = r.mode
  · rw [if_pos hmode]
  · have hwaits : (s.waitList.any fun e => e.converts a r.slot) = true := by
      simpa [WaitEntry.converts] using hbad.resolve_left hmode
    rw [if_neg hmode, if_pos hwaits]

/-- What an admission whose claim is not grantable refuses, by the first test that applies (R37, R47). -/
theorem admission_refused {c : Claim} {o : Obstacle} (tag epoch w : Nat) (h : s.obstacle s.waitList c = some o) :
    (w = 0 → s.admission c tag epoch w = s.refuse c.agent tag .conflict) ∧
    (w ≠ 0 → o = .room → s.admission c tag epoch w = s.refuse c.agent tag .tableFull) ∧
    (w ≠ 0 → o ≠ .room → 128 ≤ s.waitList.length → s.admission c tag epoch w = s.refuse c.agent tag .waitFull) := by
  rw [admission_blocked h]
  refine ⟨fun hw => if_pos hw, fun hw ho => ?_, fun hw ho hfull => ?_⟩
  · rw [if_neg hw, if_pos ho]
  · rw [if_neg hw, if_neg ho, if_pos hfull]

/-- An admission that refuses nothing and grants nothing appends its entry (R39). -/
theorem admission_appends {c : Claim} {o : Obstacle} (tag epoch : Nat) {w : Nat} (h : s.obstacle s.waitList c = some o)
    (hw : w ≠ 0) (ho : o ≠ .room) (hroom : s.waitList.length < 128) :
    s.admission c tag epoch w = s.appendEntry c tag epoch w o := by
  rw [admission_blocked h, if_neg hw, if_neg ho, if_neg (Nat.not_le.mpr hroom)]

/-- The field checks of a QUERY (R32, R50). -/
theorem handleQuery_badRequest (hin : InSession s a f.epoch) (hbad : ¬TagFree s a f.tag ∨ f.body.length ≠ 15) :
    State.handleQuery a s f = s.refuse a f.tag .badRequest := by
  by_cases hlength : f.body.length = 15
  · have htag : s.tagPasses a f.tag = false := (tagPasses_false ..).mpr (hbad.resolve_right (by simp [hlength]))
    simp [State.handleQuery, sessionCheck_pass hin, queryFields, hlength, htag]
  · simp [State.handleQuery, sessionCheck_pass hin, queryFields, hlength]

/-- A QUERY that passes them is refused BAD_EXTENT or answered with the range walk (R14, R50). -/
theorem handleQuery_fields (hin : InSession s a f.epoch) (htag : TagFree s a f.tag) (hlength : f.body.length = 15) :
    State.handleQuery a s f =
      if (extentField f.body 0).valid s.params.volume = false then s.refuse a f.tag .badExtent
      else s.placeReply a f.tag (.queryResult (s.walkDescriptors (extentField f.body 0) (field f.body 9 6))
        (s.walkHasMore (extentField f.body 0) (field f.body 9 6))) := by
  simp [State.handleQuery, sessionCheck_pass hin, queryFields, hlength, (tagPasses_iff ..).mpr htag]

end Sys2Proof.Laws
end

section
/-!
The statements about requests: the session checks, and the tests and answers of ACQUIRE, CONVERT and QUERY.
-/

namespace Sys2Proof.Proofs

open Sys2Proof.Machine Sys2Proof.Safety Sys2Proof.Laws

/-- Settles O29: none of the four takings renews the lease, and each reaches its refusal. -/
theorem sessionChecksRefuse : Obligations.SessionChecksRefuse := by
  intro s a k f rest hun hhead hk
  refine ⟨fun hm => ?_, fun hm => ⟨fun hs => ?_, fun hs => ?_, fun hs hepoch => ?_⟩⟩
  · obtain ⟨hoffline, -⟩ := (hun hm).1 a
    exact exec_turnedAway hk hhead (by simp [hoffline, isActive]) (sessionCheck_notReady hm a f.epoch)
  · exact exec_turnedAway hk hhead (by simp [hs, isActive]) (sessionCheck_offline hm hs f.epoch)
  · exact exec_turnedAway hk hhead (by simp [hs, isActive]) (sessionCheck_fenced hm hs f.epoch)
  · exact exec_turnedAway hk hhead (fun _ => hepoch) (sessionCheck_staleEpoch hm hs hepoch)

/-- Settles O35: the field checks, self-overlap, and the refusals of the admission. -/
theorem acquireRefused : Obligations.AcquireRefused := by
  intro s a f rest hhead hin
  have hin' := inSession_held (rest := rest) hin
  refine ⟨fun hbad => ?_, fun x m w hasks htag => ⟨fun hinvalid => ?_, fun hvalid => ⟨fun hover => ?_, ?_⟩⟩⟩
  · rw [exec_acquire_inSession hhead hin, handleAcquire_badRequest hin' hbad, refuse_held]
  · have htag' : s.tagPasses a f.tag = true := (tagPasses_iff ..).mpr htag
    rw [exec_acquire_inSession hhead hin, handleAcquire_refused hin' (acquireFields_some hasks) (code := .badExtent)
      (by simp [State.acquireRefusal, htag', hinvalid]), refuse_held]
  · have htag' : s.tagPasses a f.tag = true := (tagPasses_iff ..).mpr htag
    have hself : s.selfOverlaps a x = true := by
      rw [← Bool.not_eq_false, selfOverlaps_false]
      exact hover
    rw [exec_acquire_inSession hhead hin, handleAcquire_refused hin' (acquireFields_some hasks) (code := .selfOverlap)
      (by simp [State.acquireRefusal, htag', hvalid, hself]), refuse_held]
  · intro hclear o ho
    rw [exec_acquire ⟨hhead, hin, hasks, htag, hvalid, hclear⟩]
    obtain ⟨hconflict, hroom, hfull⟩ :=
      admission_refused (s := held s a rest) (c := acquiring a x m) f.tag f.epoch w ho
    refine ⟨fun hw => ?_, fun hw hor => ?_, fun hw hor hlength => ?_⟩
    · rw [hconflict hw]; exact congrArg _ (refuse_held ..)
    · rw [hroom hw hor]; exact congrArg _ (refuse_held ..)
    · rw [hfull hw hor hlength]; exact congrArg _ (refuse_held ..)

/-- Settles O36: with nothing in the way the ACQUIRE reaches the grant, which creates its record. -/
theorem acquireGranted : Obligations.AcquireGranted := by
  refine ⟨insertRecord_perm, fun s a f rest x m w slot hready hfree hslot => ?_⟩
  rw [exec_acquire hready, admission_granted (s := held s a rest) hfree,
    grant_acquire_eq (s := held s a rest) f.tag f.epoch rfl hslot]
  unfold grantedState
  dsimp only [acquiring]
  rw [replied_held, held_session]
  rfl

/-- Settles O37: the admission appends the entry in the state its first obstacle calls for. -/
theorem requestsWait : Obligations.RequestsWait := by
  intro s a f rest w hw hroom
  have hwaits : ∀ (cmd : Instr) (c : Claim), c.agent = a →
      exec cmd s = .next ((held s a rest).admission c f.tag f.epoch w) → ∀ o, o ≠ .room →
      s.obstacle s.waitList c = some o →
      exec cmd s = .next ((held s a rest).appendEntry c f.tag f.epoch w o) := fun cmd c _ hexec o hor ho =>
    hexec.trans (congrArg _ (admission_appends (s := held s a rest) f.tag f.epoch ho hw hor hroom))
  refine ⟨fun x m hready => ?_, fun r hi hready hheld => ?_⟩
  · have hexec := hwaits _ _ rfl (exec_acquire hready)
    exact ⟨hexec _ (by simp), hexec _ (by simp), hexec _ (by simp)⟩
  · have hconvert := exec_convert hi hready
    rw [State.convertUp, hheld] at hconvert
    have hexec := hwaits _ _ rfl hconvert
    exact ⟨hexec _ (by simp), hexec _ (by simp), hexec _ (by simp)⟩

/-- Settles O38: the field checks, the tests against the subject, and the refusals of the upgrade. -/
theorem convertRefused : Obligations.ConvertRefused := by
  intro s a f rest hi hhead hin
  have hin' := inSession_held (rest := rest) hin
  refine ⟨fun hbad => ?_, fun token m w hasks htag => ⟨fun hnone => ?_, fun r hcites hbad => ?_⟩, fun r w hready => ?_⟩
  · rw [exec_convert_inSession hhead hin, handleConvert_badRequest hin' hbad, refuse_held]
  · rw [exec_convert_inSession hhead hin, handleConvert_subject hin' hasks htag,
      convertSubject_unknown fun r hr => hnone r (cites_held.mp hr), refuse_held]
  · rw [exec_convert_inSession hhead hin, handleConvert_subject hin' hasks htag,
      convertSubject_badRequest (s := held s a rest) hi (cites_held.mpr hcites) hbad, refuse_held]
  · rw [exec_convert hi hready, State.convertUp]
    refine ⟨fun hrecalled => ?_, fun hheld o ho => ?_⟩
    · rw [if_pos hrecalled, refuse_held]
    · obtain ⟨hconflict, hfull, hwait⟩ :=
        admission_refused (s := held s a rest) (c := upgrading a r) f.tag f.epoch w ho
      rw [hheld]
      refine ⟨fun hw => ?_, fun hw hor => ?_, fun hw hor hlength => ?_⟩
      · exact congrArg _ ((hconflict hw).trans (refuse_held ..))
      · exact congrArg _ ((hfull hw hor).trans (refuse_held ..))
      · exact congrArg _ ((hwait hw hor hlength).trans (refuse_held ..))

/-- Settles O41: the field checks, and the range walk over the records of the moment. -/
theorem queryAnswered : Obligations.QueryAnswered := by
  intro s a f rest hhead hin
  have hin' := inSession_held (rest := rest) hin
  refine ⟨fun hbad => ?_, fun htag hlength => ⟨fun hinvalid => ?_, fun hvalid => ?_⟩⟩
  · rw [exec_query_inSession hhead hin, handleQuery_badRequest hin' hbad, refuse_held]
  · rw [exec_query_inSession hhead hin, handleQuery_fields hin' htag hlength]
    exact congrArg _ ((if_pos hinvalid).trans (refuse_held ..))
  · rw [exec_query_inSession hhead hin, handleQuery_fields hin' htag hlength]
    exact congrArg _ ((if_neg (by rw [Bool.not_eq_false]; exact hvalid)).trans (placeReply_held ..))

end Sys2Proof.Proofs
end

section
/-!
SUPPORT. The first obstacle of a claim read in the words of the spec, and what a closing frame meets before its rule acts.
-/

namespace Sys2Proof.Laws

open Sys2Proof.Machine Sys2Proof.Safety

/-! ## The four tests of grantability (R5, R36) -/

theorem hitsEntry_iff (c : Claim) (e : WaitEntry) : c.hitsEntry e = true ↔
    c.agent ≠ e.agent ∧ c.extent.overlaps e.extent = true ∧ (c.mode = .exclusive ∨ e.mode = .exclusive) := by
  simp [Claim.hitsEntry, Mode.clash, and_assoc]

theorem earlier_iff (ahead : List WaitEntry) (c : Claim) : (ahead.any fun e => c.hitsEntry e) = true ↔
    ∃ e ∈ ahead, c.agent ≠ e.agent ∧ c.extent.overlaps e.extent = true ∧ (c.mode = .exclusive ∨ e.mode = .exclusive) := by
  simp only [List.any_eq_true, hitsEntry_iff]

/-- A sweep that recalls bars a claim its range and mask cover (R111). -/
theorem covers_iff (w : Sweep) (c : Claim) : w.covers c = true ↔ w.mask.getLsbD c.agent.val = true ∧
    c.extent.overlaps w.range = true ∧ (w.kind = .revoke ∨ w.kind = .demote ∧ c.mode = .exclusive) := by
  unfold Sweep.covers inMask
  cases w.kind <;> simp [and_assoc]

theorem barred_iff (s : State) (c : Claim) : s.barred c = true ↔ ∃ w, s.sweep = some w ∧
    w.mask.getLsbD c.agent.val = true ∧ c.extent.overlaps w.range = true ∧
    (w.kind = .revoke ∨ w.kind = .demote ∧ c.mode = .exclusive) := by
  unfold State.barred
  cases s.sweep with
  | none => simp
  | some w => simp [covers_iff]

theorem blocked_iff (s : State) (c : Claim) : (!(s.conflicting c).isEmpty) = true ↔ ∃ r ∈ s.grantTable.records,
    c.kind ≠ .convert r.slot ∧ c.agent ≠ r.holder ∧ c.extent.overlaps r.extent = true ∧
    (c.mode = .exclusive ∨ r.mode = .exclusive) := by
  simp only [State.conflicting, Bool.not_eq_true', List.isEmpty_eq_false_iff_exists_mem, List.mem_filter, hitsRecord_iff]

/-- Room is a token and, for an ACQUIRE, a slot (R12). -/
theorem hasRoom_iff (s : State) (c : Claim) : s.hasRoom c = true ↔ s.grantTable.counter < 2 ^ 64 - 1 ∧
    (c.kind = .acquire → ∃ n < 4096, ∀ r ∈ s.grantTable.records, r.slot ≠ n) := by
  have htoken : s.canIssueToken = true ↔ s.grantTable.counter < 2 ^ 64 - 1 := decide_eq_true_iff
  have hslot : s.freeSlot.isSome = true ↔ ∃ n < 4096, ∀ r ∈ s.grantTable.records, r.slot ≠ n := by
    simp [State.freeSlot, leastUnused_isSome]
  unfold State.hasRoom
  cases c.kind with
  | acquire => simp only [Bool.and_eq_true, htoken, hslot, forall_const, and_comm]
  | convert slot => simp [htoken]

/-! ## The order of the tests (R41) -/

/-- The first test that fails, as the obstacle of R41 names it. -/
def firstObstacle (earlier barred blocked room : Bool) : Option Obstacle :=
  if earlier then some .earlier else if barred then some .barrier else if blocked then some .records
  else if !room then some .room else none

theorem obstacle_eq_firstObstacle (s : State) (ahead : List WaitEntry) (c : Claim) : s.obstacle ahead c =
    firstObstacle (ahead.any fun e => c.hitsEntry e) (s.barred c) (!(s.conflicting c).isEmpty) (s.hasRoom c) := rfl

/-- The tests are made in their order, and none fails exactly when there is no obstacle. -/
theorem firstObstacle_iff (earlier barred blocked room : Bool) :
    (firstObstacle earlier barred blocked room = none ↔
      ¬earlier = true ∧ ¬barred = true ∧ ¬blocked = true ∧ room = true) ∧
    (firstObstacle earlier barred blocked room = some .earlier ↔ earlier = true) ∧
    (firstObstacle earlier barred blocked room = some .barrier ↔ ¬earlier = true ∧ barred = true) ∧
    (firstObstacle earlier barred blocked room = some .records ↔
      ¬earlier = true ∧ ¬barred = true ∧ blocked = true) ∧
    (firstObstacle earlier barred blocked room = some .room ↔
      ¬earlier = true ∧ ¬barred = true ∧ ¬blocked = true ∧ ¬room = true) := by
  revert earlier barred blocked room
  decide

/-! ## Overlap (R4) -/

/-- Extents of at least one block overlap exactly when the later start lies in both. -/
theorem overlaps_iff_shareBlock {x y : Extent} (hx : 1 ≤ x.length) (hy : 1 ≤ y.length) :
    x.overlaps y = true ↔ ShareBlock x y := by
  rw [overlaps_iff]
  unfold Extent.stop ShareBlock
  constructor
  · rintro ⟨h1, h2⟩
    exact ⟨max x.start y.start, by omega, by omega⟩
  · rintro ⟨n, h1, h2⟩
    omega

/-! ## Closing frames (R31, R141, R181) -/

section

variable {s : State} {a : AgentId} {k : ClosingKind} {f : Frame ClosingKind} {rest : List (Frame ClosingKind)}

/-- A closing frame that is taken meets the checks of R31 and R181 before the rule of its kind. -/
theorem exec_closing (hhead : ClosingHead s a k f rest) : ∃ act, exec (closingCommand a k) s =
    .next (State.closingChecks a act (s.afterTakingClosing a f.epoch) f) := by
  cases k with
  | release => exact ⟨_, congrArg _ (onClosing_head (State.handleRelease a) hhead)⟩
  | downgrade => exact ⟨_, congrArg _ (onClosing_head (State.handleDowngrade a) hhead)⟩
  | cancel => exact ⟨_, congrArg _ (onClosing_head (State.handleCancel a) hhead)⟩
  | keepalive => exact ⟨_, congrArg _ (onClosing_head State.handleKeepalive hhead)⟩

theorem bodyLength_eq (k : ClosingKind) : k.bodyLength = if k = .release ∨ k = .downgrade then 8 else 0 := by
  cases k <;> rfl

/-- `s` once a closing frame that renews nothing has been taken (R141). -/
def closingTaken (s : State) (a : AgentId) (rest : List (Frame ClosingKind)) : State :=
  { s with agentLinks := s.agentLinks.set a { s.link a with closing := leftBuffer (s.link a).closing rest } }

theorem afterTakingClosing_taken (hhead : ClosingHead s a k f rest)
    (hother : isActive (s.session a).state = true → f.epoch ≠ (s.session a).epoch) :
    s.afterTakingClosing a f.epoch = closingTaken s a rest := afterTakingClosing_other hhead hother

/-- A counter raised where the taking renewed nothing. -/
theorem modCounters_taken (s : State) (a : AgentId) (rest : List (Frame ClosingKind))
    (count : AgentCounters → AgentCounters) :
    (closingTaken s a rest).modCounters a count = closedCounting s a rest (count (s.session a).counters) := rfl

/-- A late frame (R31). -/
theorem exec_closing_late (hhead : ClosingHead s a k f rest) (hinactive : isActive (s.session a).state = false) :
    exec (closingCommand a k) s = .next (closedCounting s a rest (s.session a).counters.addLate) := by
  obtain ⟨act, hexec⟩ := exec_closing hhead
  rw [hexec, afterTakingClosing_taken hhead (by simp [hinactive]),
    closingChecks_late (s := closingTaken s a rest) _ hinactive]
  exact congrArg _ (modCounters_taken ..)

/-- A frame of another epoch (R31). -/
theorem exec_closing_badEpoch (hhead : ClosingHead s a k f rest) (hm : s.management.state ≠ .unconfigured)
    (hactive : isActive (s.session a).state = true) (hepoch : f.epoch ≠ (s.session a).epoch) :
    exec (closingCommand a k) s = .next (logged
      (closedCounting s a rest (s.session a).counters.addProtocolError) (.protocolError (.agent a) .badEpoch k.code)) := by
  obtain ⟨act, hexec⟩ := exec_closing hhead
  obtain ⟨-, rfl, -⟩ := id hhead
  rw [hexec, afterTakingClosing_taken hhead fun _ => hepoch,
    closingChecks_active (s := closingTaken s a rest) _ hm hactive]
  exact congrArg _ ((if_pos hepoch).trans (congrArg (State.report · _) (modCounters_taken ..)))

/-- A frame in session with a body of the wrong length (R181). -/
theorem exec_closing_badLength (hhead : ClosingHead s a k f rest) (hin : InSession s a f.epoch)
    (hlength : f.body.length ≠ k.bodyLength) :
    exec (closingCommand a k) s = .next ((closed s a rest).protocolError a .badLength k.code) := by
  obtain ⟨act, hexec⟩ := exec_closing hhead
  obtain ⟨-, rfl, -⟩ := id hhead
  obtain ⟨hm, hactive, hepoch⟩ := inSession_closed (rest := rest) hin
  rw [hexec, afterTakingClosing_inSession hhead hin, closingChecks_active _ hm hactive,
    if_neg (not_not_intro hepoch), if_pos hlength]

/-! ## An entry named by its tag (R48, R49) -/

/-- A CANCEL in session reaches its rule. -/
theorem exec_cancel_inSession (hhead : ClosingHead s a .cancel f rest) (hin : InSession s a f.epoch) (hbody : f.body = []) :
    exec (.cancel a) s = .next (State.handleCancel a (closed s a rest) f) := by
  simp only [exec, execCancel, onClosing_inSession _ hhead hin (by rw [hbody]; rfl)]

/-- A CANCEL that finds no entry is a late frame (R49). -/
theorem handleCancel_none (hnone : ∀ e ∈ s.waitList, ¬(e.agent = a ∧ e.tag = f.tag ∧ e.epoch = (s.session a).epoch)) :
    State.handleCancel a s f = s.lateFrame a := by
  have hfind : s.entryOf a f.tag = none := by
    rw [State.entryOf, List.find?_eq_none]
    simpa [and_assoc] using hnone
  simp only [State.handleCancel, hfind]

/-- One that finds an entry takes it out (R49). -/
theorem handleCancel_some {e : WaitEntry} (he : e ∈ s.waitList) (ha : e.agent = a) (ht : e.tag = f.tag)
    (hepoch : e.epoch = (s.session a).epoch) : State.handleCancel a s f = s.expelEntry a f.tag .cancelled := by
  cases hfind : s.entryOf a f.tag with
  | none =>
    rw [State.entryOf, List.find?_eq_none] at hfind
    exact absurd (by simp [ha, ht, hepoch]) (hfind e he)
  | some e' => simp only [State.handleCancel, hfind]

/-- An entry's deadline passes at the count that it is (R48). -/
theorem waitDeadlinePasses_due {before after : List WaitEntry} {e : WaitEntry} (hsplit : s.waitList = before ++ e :: after)
    (ha : e.agent = a) (hb : ∀ e' ∈ before, e'.agent = a → e'.tag ≠ e.tag) (hdue : e.deadline = s.timeBase) :
    s.waitDeadlinePasses a e.tag = s.expelEntry a e.tag .timedOut := by
  have hfind : (s.waitList.find? fun e' => e'.agent = a && e'.tag = e.tag) = some e := by
    rw [hsplit]
    exact find_split (by simpa using hb) (by simp [ha])
  simp only [State.waitDeadlinePasses, hfind, if_pos hdue]

/-! ## Happenings that cannot take place (assumption 2) -/

/-- At every other count the deadline command changes nothing. -/
theorem waitDeadlinePasses_notDue {tag : Nat}
    (h : ∀ e ∈ s.waitList, e.agent = a → e.tag = tag → e.deadline ≠ s.timeBase) : s.waitDeadlinePasses a tag = s := by
  unfold State.waitDeadlinePasses
  split
  · rfl
  · rename_i e hfind
    have hnamed := List.find?_some hfind
    simp only [Bool.and_eq_true, decide_eq_true_eq] at hnamed
    exact if_neg (h e (List.mem_of_find?_eq_some hfind) hnamed.1 hnamed.2)

theorem recallDeadlinePasses_notDue {slot : Nat} (h : ∀ r ∈ s.grantTable.records, r.slot = slot → ∀ rc,
    r.recallRecord = some rc → rc.deadline ≠ s.timeBase) : s.recallDeadlinePasses slot = s := by
  unfold State.recallDeadlinePasses
  split
  · rfl
  · rename_i r hfind
    have hslot := List.find?_some hfind
    simp only [decide_eq_true_eq] at hslot
    split
    · rfl
    · rename_i rc hrc
      exact if_neg (h r (recordAt_mem hfind) hslot rc hrc)

theorem leaseDeadlinePasses_notDue (h : (s.session a).state ≠ .active s.timeBase) : s.leaseDeadlinePasses a = s := by
  unfold State.leaseDeadlinePasses
  split
  · rename_i d hd
    exact if_neg fun hdue : d = s.timeBase => h (hdue ▸ hd)
  · rfl

theorem sweepOnce_notScanning (h : ∀ w, s.sweep = some w → w.phase = .draining) : s.sweepOnce = s := by
  unfold State.sweepOnce
  split
  · rfl
  · rename_i w hw
    rw [h w hw]

/-- No answerable head can be taken (R140). -/
theorem onAnswerable_notEnabled {k : AnswerableKind} (act : State → Frame AnswerableKind → State)
    (h : (s.link a).linkState ≠ .run ∨ (s.link a).answerable.frames.head?.map Frame.kind ≠ some k ∨
      s.management.state = .paused ∨
      Config.agentReplySlots ≤ (s.link a).replies.reserved + (s.link a).replies.filled.length) :
    s.onAnswerable a k act = s := by
  rcases onAnswerable_cases s a k act with ⟨-, hsame⟩ | ⟨f, rest, ⟨hframes, hkind, hrun, hfree, hpaused⟩, -⟩
  · exact hsame
  · rcases h with h | h | h | h
    · exact absurd hrun h
    · exact absurd (by simp [hframes, hkind]) h
    · exact absurd h hpaused
    · exact absurd h (Nat.not_le.mpr hfree)

/-- No closing head can be taken (R141). -/
theorem onClosing_notEnabled (act : State → Frame ClosingKind → State)
    (h : (s.link a).linkState ≠ .run ∨ (s.link a).closing.frames.head?.map Frame.kind ≠ some k) :
    s.onClosing a k act = s := by
  rcases onClosing_cases s a k act with ⟨-, hsame⟩ | ⟨f, rest, ⟨hframes, hkind, hrun⟩, -⟩
  · exact hsame
  · rcases h with h | h
    · exact absurd hrun h
    · exact absurd (by simp [hframes, hkind]) h

/-- No command can be taken (R157). -/
theorem onCommand_notEnabled {k : CommandKind} (act : State → List Byte → Answer)
    (h : s.mgmtLink.linkState ≠ .run ∨ s.mgmtLink.command.frames.head?.map Frame.kind ≠ some k ∨
      Config.mgmtReplySlots ≤ s.mgmtLink.replies.reserved + s.mgmtLink.replies.filled.length) :
    s.onCommand k act = s := by
  rcases onCommand_cases s k act with ⟨-, hsame⟩ | ⟨f, rest, ⟨hframes, hkind, hrun, hfree⟩, -⟩
  · exact hsame
  · rcases h with h | h | h
    · exact absurd hrun h
    · exact absurd (by simp [hframes, hkind]) h
    · exact absurd h (Nat.not_le.mpr hfree)

/-- REPORT_ACK needs no slot (R157). -/
theorem reportAckTaken_notEnabled (h : s.mgmtLink.linkState ≠ .run ∨
    s.mgmtLink.command.frames.head?.map Frame.kind ≠ some .reportAck) : s.reportAckTaken = s := by
  unfold State.reportAckTaken
  split
  · rfl
  · rename_i f rest hframes
    refine if_neg fun ⟨hkind, hrun⟩ => ?_
    rcases h with h | h
    · exact h hrun
    · exact h (by simp [hframes, hkind])

end

end Sys2Proof.Laws
end

section
/-!
The statements about obstacles, closing frames, entries named by their tag, and happenings that cannot take place.
-/

namespace Sys2Proof.Proofs

open Sys2Proof.Machine Sys2Proof.Safety Sys2Proof.Laws

/-- Settles O43: each test in the spec's words, and their order. -/
theorem grantableOrFirstObstacle : Obligations.GrantableOrFirstObstacle := by
  refine ⟨fun s ahead c => ?_, valid_iff, fun x y => overlaps_iff_shareBlock⟩
  dsimp only
  rw [← earlier_iff, ← barred_iff, ← blocked_iff, ← hasRoom_iff, obstacle_eq_firstObstacle]
  exact firstObstacle_iff ..

/-- Settles O44: the session, the epoch, the body length, and KEEPALIVE, which does nothing of its own. -/
theorem closingFramesChecked : Obligations.ClosingFramesChecked := by
  intro s a k f rest hun hhead
  refine ⟨fun hlate => ?_, fun hm hactive hepoch => ?_, fun hin hlength => ?_, fun hk hin hbody => ?_⟩
  · have hinactive : isActive (s.session a).state = false := by
      rcases hlate with hm | hinactive
      · obtain ⟨hoffline, -⟩ := (hun hm).1 a
        rw [hoffline]
        rfl
      · exact hinactive
    exact exec_closing_late hhead hinactive
  · exact exec_closing_badEpoch hhead hm hactive hepoch
  · rw [← bodyLength_eq] at hlength
    rw [exec_closing_badLength hhead hin hlength, protocolError_closed]
  · subst hk
    exact congrArg _ (onClosing_inSession State.handleKeepalive hhead hin (by rw [hbody]; rfl))

/-- Settles O47: the entry is found by agent and tag, leaves its place, is answered, and the walk follows. -/
theorem entriesTimedOutOrCancelled : Obligations.EntriesTimedOutOrCancelled := by
  refine fun s a => ⟨fun before e after hsplit ha hb hdue => ?_, fun f rest hhead hin hbody => ⟨fun hnone => ?_,
    fun before e after hsplit ha ht hepoch hb => ?_⟩⟩
  · exact congrArg _ ((waitDeadlinePasses_due hsplit ha hb hdue).trans (expelEntry_eq hsplit ha rfl hb))
  · rw [exec_cancel_inSession hhead hin hbody, handleCancel_none, lateFrame_closed]
    intro e he hnamed
    rw [closed_session] at hnamed
    exact hnone e he (hin.2.2 ▸ hnamed)
  · have hmem : e ∈ (closed s a rest).waitList := by
      change e ∈ s.waitList
      simp [hsplit]
    have hcurrent : e.epoch = ((closed s a rest).session a).epoch := by
      rw [closed_session]
      exact hepoch.trans hin.2.2
    rw [exec_cancel_inSession hhead hin hbody, handleCancel_some hmem ha ht hcurrent,
      expelEntry_eq (s := closed s a rest) hsplit ha ht hb]

/-- Settles O5: each happening's condition fails. -/
theorem notEnabledChangesNothing : Obligations.NotEnabledChangesNothing := by
  intro s a
  refine ⟨fun k h => ?_, fun k h => ?_, fun k h => ?_, fun tag h => ?_, fun slot h => ?_, fun h => ?_, fun h => ?_,
    fun h => ?_, fun h => ?_, fun h => ?_, fun h => ?_, fun h => ?_, fun h => ?_⟩
  · cases k <;> exact congrArg _ (onAnswerable_notEnabled _ h)
  · cases k <;> exact congrArg _ (onClosing_notEnabled _ h)
  · cases k with
    | reportAck => exact congrArg _ (reportAckTaken_notEnabled (h.imp_right fun h => h.resolve_right fun h => h.1 rfl))
    | _ => exact congrArg _ (onCommand_notEnabled _ (h.imp_right fun h => h.imp_right And.right))
  · exact congrArg _ (waitDeadlinePasses_notDue h)
  · exact congrArg _ (recallDeadlinePasses_notDue h)
  · exact congrArg _ (leaseDeadlinePasses_notDue h)
  · exact congrArg _ (sweepOnce_notScanning h)
  · exact congrArg _ (if_neg h)
  · exact congrArg _ (if_neg h)
  · exact congrArg _ (if_pos h)
  · exact congrArg _ (if_pos h)
  · exact congrArg _ (if_neg fun hready => h.elim (fun h => h hready.1) fun h => h hready.2)
  · exact congrArg _ (if_neg fun hready => h.elim (fun h => h hready.1) fun h => h hready.2)

end Sys2Proof.Proofs
end

section
/-!
SUPPORT. What the laws about requests read of the state, and the operations that change none of it: links, frames that
arrive, reports, counters, the Churn Monitor and the session lease. In the order of the model's files.
-/

namespace Sys2Proof.Laws

-- One lemma at a time: checked at once, so many would start more threads than the memory limit of check.sh allows.
set_option Elab.async false

open Sys2Proof.Machine Sys2Proof.Safety

/-! ## What the laws about requests read -/

/-- What a barrier reads of a sweep (R111). -/
def barrierTerms (w : Sweep) : SweepKind × Extent × BitVec 8 := (w.kind, w.range, w.mask)

/-- Tables, barrier and reply areas. -/
structure RequestView where
  table : GrantTable
  entries : List WaitEntry
  barrier : Option (SweepKind × Extent × BitVec 8)
  areas : AgentId → ReplyArea TaggedReply
  mgmtArea : ReplyArea MgmtReply

/-- What `RecallingEntryLaw`, `NoneGrantable` and `ReplySlotLaw` read of a state. -/
def requestView (s : State) : RequestView :=
  { table := s.grantTable
    entries := s.waitList
    barrier := s.sweep.map barrierTerms
    areas := fun a => (s.link a).replies
    mgmtArea := s.mgmtLink.replies }

section
variable (s : State)

@[simp] theorem requestView_report (r : Report) : requestView (s.report r) = requestView s := rfl
@[simp] theorem requestView_modSession (a : AgentId) (f : Session → Session) :
    requestView (s.modSession a f) = requestView s := rfl
@[simp] theorem requestView_modCounters (a : AgentId) (f : AgentCounters → AgentCounters) :
    requestView (s.modCounters a f) = requestView s := rfl
@[simp] theorem requestView_modMember (a : AgentId) (f : ChurnMember → ChurnMember) :
    requestView (s.modMember a f) = requestView s := rfl
@[simp] theorem requestView_modSendList (a : AgentId) (f : List RecallMessage → List RecallMessage) :
    requestView (s.modSendList a f) = requestView s := rfl
@[simp] theorem requestView_modMgmtCounters (f : MgmtCounters → MgmtCounters) :
    requestView (s.modMgmtCounters f) = requestView s := rfl

variable {s}

/-- A link changes and its reply area stays. -/
@[simp] theorem requestView_modLink {a : AgentId} {f : AgentLink → AgentLink} (h : ∀ l, (f l).replies = l.replies) :
    requestView (s.modLink a f) = requestView s := by
  have hareas : (fun b => ((s.modLink a f).link b).replies) = fun b => (s.link b).replies := by
    funext b
    rw [State.modLink_link]
    split
    · exact h _
    · rfl
  exact congrArg (fun x => { requestView s with areas := x }) hareas

/-- LI-M changes and its reply area stays. -/
@[simp] theorem requestView_modMgmt {f : MgmtLink → MgmtLink} (h : ∀ l, (f l).replies = l.replies) :
    requestView (s.modMgmt f) = requestView s :=
  congrArg (fun x => { requestView s with mgmtArea := x }) (h _)

/-- A sweep's phase or tallies change and its barrier stays. -/
@[simp] theorem requestView_modSweep {f : Sweep → Sweep} (h : ∀ w, barrierTerms (f w) = barrierTerms w) :
    requestView (s.modSweep f) = requestView s := by
  have hbarrier : (s.sweep.map f).map barrierTerms = s.sweep.map barrierTerms := by
    cases s.sweep with
    | none => rfl
    | some w => exact congrArg some (h w)
  exact congrArg (fun x => { requestView s with barrier := x }) hbarrier

theorem requestView_foldl {α : Type} {f : State → α → State} (h : ∀ t x, requestView (f t x) = requestView t) :
    ∀ (l : List α) (s : State), requestView (l.foldl f s) = requestView s
  | [], _ => rfl
  | x :: l, s => (requestView_foldl h l (f s x)).trans (h s x)

end

/-! ## The shared operations -/

section
variable (s : State) (a : AgentId)

@[simp] theorem requestView_protocolError (kind : ProtocolErrorKind) (code : Nat) :
    requestView (s.protocolError a kind code) = requestView s := by simp [State.protocolError]

@[simp] theorem requestView_lateFrame : requestView (s.lateFrame a) = requestView s := rfl

@[simp] theorem requestView_mgmtProtocolError (kind : ProtocolErrorKind) (code : Nat) :
    requestView (s.mgmtProtocolError kind code) = requestView s := by simp [State.mgmtProtocolError]

@[simp] theorem requestView_placeNotice (kind : NoticeKind) (epoch : Nat) :
    requestView (s.placeNotice a kind epoch) = requestView s := by simp [State.placeNotice]

@[simp] theorem requestView_linkError (cause : LinkCause) : requestView (s.linkError a cause) = requestView s := by
  simp [State.linkError, AgentLink.stop]

@[simp] theorem requestView_mgmtLinkError (cause : LinkCause) :
    requestView (s.mgmtLinkError cause) = requestView s := by simp [State.mgmtLinkError, MgmtLink.stop]

@[simp] theorem requestView_renewLease (epoch : Nat) : requestView (s.renewLease a epoch) = requestView s := by
  rcases renewLease_cases s a epoch with hsame | ⟨-, -, hrenewed⟩
  · rw [hsame]
  · rw [hrenewed]
    rfl

/-! ## Agent links (Chapter 7) -/

@[simp] theorem requestView_signalFound (link : LinkId) : requestView (s.signalFound link) = requestView s := by
  unfold State.signalFound
  cases link with
  | agent a => dsimp only; split <;> simp
  | mgmt => dsimp only; split <;> simp

@[simp] theorem requestView_signalLost (link : LinkId) : requestView (s.signalLost link) = requestView s := by
  unfold State.signalLost
  cases link with
  | agent a => dsimp only; split <;> simp [AgentLink.stop]
  | mgmt => dsimp only; split <;> simp [MgmtLink.stop]

@[simp] theorem synced_replies (l : AgentLink) (recallWindow count : Nat) :
    (l.synced recallWindow count).replies = l.replies := by
  unfold AgentLink.synced
  dsimp only
  split <;> rfl

@[simp] theorem requestView_goodSync (epoch count : Nat) : requestView (s.goodSync a epoch count) = requestView s := by
  unfold State.goodSync
  dsimp only
  split <;> simp

@[simp] theorem requestView_syncArrives (f : RawFrame) : requestView (s.syncArrives a f) = requestView s := by
  unfold State.syncArrives
  split <;> simp

@[simp] theorem requestView_addRecallCredit (x : Nat) : requestView (s.addRecallCredit a x) = requestView s := by
  simp [State.addRecallCredit]

@[simp] theorem requestView_answerableArrives (k : AnswerableKind) (f : RawFrame) :
    requestView (s.answerableArrives a k f) = requestView s := by
  unfold State.answerableArrives
  split <;> simp

@[simp] theorem requestView_closingArrives (k : ClosingKind) (f : RawFrame) :
    requestView (s.closingArrives a k f) = requestView s := by
  unfold State.closingArrives
  split <;> simp

@[simp] theorem requestView_unknownArrives (f : RawFrame) : requestView (s.unknownArrives a f) = requestView s := by
  unfold State.unknownArrives
  split <;> simp

@[simp] theorem requestView_crcFailure : requestView (s.crcFailure a) = requestView s := rfl

@[simp] theorem requestView_arrivesInRun (bytes : List Byte) : requestView (s.arrivesInRun a bytes) = requestView s := by
  unfold State.arrivesInRun
  split
  · simp
  · simp
  · split <;> simp

@[simp] theorem requestView_arrivesInWaitSync (bytes : List Byte) :
    requestView (s.arrivesInWaitSync a bytes) = requestView s := by
  unfold State.arrivesInWaitSync
  split
  · rfl
  · simp
  · split <;> simp

theorem requestView_frameArrives (bytes : List Byte) : requestView (s.frameArrives a bytes) = requestView s := by
  unfold State.frameArrives
  split <;> simp

/-! ## Churn Monitor (Chapter 6) -/

@[simp] theorem requestView_raiseAlarm : requestView (s.raiseAlarm a) = requestView s := by
  unfold State.raiseAlarm
  dsimp only
  split <;> simp

@[simp] theorem requestView_testAlarm : requestView (s.testAlarm a) = requestView s := by
  unfold State.testAlarm
  split <;> simp

@[simp] theorem requestView_recordOutcome (o : ChurnOutcome) :
    requestView (s.recordOutcome a o) = requestView s := by
  unfold State.recordOutcome
  split <;> simp

@[simp] theorem requestView_clearWindow : requestView (s.clearWindow a) = requestView s := rfl

@[simp] theorem requestView_clearGroupWindows (g : GroupId) :
    requestView (s.clearGroupWindows g) = requestView s :=
  requestView_foldl (fun t a => by split <;> simp) _ s

/-! ## Taking a closing frame, and the count -/

@[simp] theorem requestView_afterTakingClosing (epoch : Nat) :
    requestView (s.afterTakingClosing a epoch) = requestView s := by simp [State.afterTakingClosing]

@[simp] theorem requestView_timeAdvances : requestView s.timeAdvances = requestView s := rfl

/-! ## LI-M (sections 8.1 and 8.8) -/

@[simp] theorem mgmtSynced_replies (l : MgmtLink) (reportWindow count : Nat) :
    (l.synced reportWindow count).replies = l.replies := by
  unfold MgmtLink.synced
  dsimp only
  split <;> rfl

@[simp] theorem requestView_mgmtGoodSync (count : Nat) : requestView (s.mgmtGoodSync count) = requestView s := by
  unfold State.mgmtGoodSync
  dsimp only
  split <;> simp

@[simp] theorem requestView_mgmtSyncArrives (f : RawFrame) : requestView (s.mgmtSyncArrives f) = requestView s := by
  unfold State.mgmtSyncArrives
  split <;> simp

@[simp] theorem requestView_addReportCredit (x : Nat) : requestView (s.addReportCredit x) = requestView s := by
  simp [State.addReportCredit]

@[simp] theorem requestView_commandArrives (k : CommandKind) (f : RawFrame) :
    requestView (s.commandArrives k f) = requestView s := by
  unfold State.commandArrives
  split <;> simp

@[simp] theorem requestView_mgmtUnknownArrives (f : RawFrame) :
    requestView (s.mgmtUnknownArrives f) = requestView s := by
  unfold State.mgmtUnknownArrives
  split <;> simp

@[simp] theorem requestView_mgmtCrcFailure : requestView s.mgmtCrcFailure = requestView s := rfl

@[simp] theorem requestView_mgmtArrivesInRun (bytes : List Byte) :
    requestView (s.mgmtArrivesInRun bytes) = requestView s := by
  unfold State.mgmtArrivesInRun
  split
  · simp
  · simp
  · split <;> simp

@[simp] theorem requestView_mgmtArrivesInWaitSync (bytes : List Byte) :
    requestView (s.mgmtArrivesInWaitSync bytes) = requestView s := by
  unfold State.mgmtArrivesInWaitSync
  split
  · rfl
  · simp
  · split <;> simp

theorem requestView_mgmtFrameArrives (bytes : List Byte) : requestView (s.mgmtFrameArrives bytes) = requestView s := by
  unfold State.mgmtFrameArrives
  split <;> simp

theorem requestView_reportAckTaken : requestView s.reportAckTaken = requestView s := by
  unfold State.reportAckTaken
  split
  · rfl
  · split
    · dsimp only
      split <;> simp
    · rfl

end

end Sys2Proof.Laws
end

section
/-!
SUPPORT. Reply slots accounted for (R29, R34, R145): every RESERVED slot of an agent is that of a wait entry or of a request
whose reply is still owed. What the operations of the Wait List do to the account.
-/

namespace Sys2Proof.Laws

set_option Elab.async false

open Sys2Proof.Machine Sys2Proof.Safety

/-! ## The account -/

/-- The agents of some wait entries, one for each. -/
abbrev agentsOf (l : List WaitEntry) : List AgentId := l.map WaitEntry.agent

/-- Every RESERVED slot of an agent link is that of one of the agent's entries or of one of its requests in `owed`; LI-M has
`taken` RESERVED slots; and no area passes its slots. -/
def Accounted (s : State) (owed : List AgentId) (taken : Nat) : Prop :=
  (∀ a : AgentId, (s.link a).replies.reserved = (agentsOf s.waitList ++ owed).count a ∧
    (s.link a).replies.reserved + (s.link a).replies.filled.length ≤ Config.agentReplySlots) ∧
  s.mgmtLink.replies.reserved = taken ∧
  s.mgmtLink.replies.reserved + s.mgmtLink.replies.filled.length ≤ Config.mgmtReplySlots

theorem count_agentsOf (s : State) (a : AgentId) : (agentsOf s.waitList).count a = (s.entriesOf a).length := by
  rw [State.entriesOf, ← List.countP_eq_length_filter, List.count_eq_countP, List.countP_map]
  rfl

/-- Between happenings no reply is owed and LI-M has no RESERVED slot. -/
theorem replySlotLaw_iff (s : State) : ReplySlotLaw s ↔ Accounted s [] 0 := by
  unfold ReplySlotLaw Accounted
  simp only [List.append_nil, count_agentsOf]
  constructor
  · rintro ⟨hagents, hreserved, hfilled⟩
    exact ⟨hagents, hreserved, by omega⟩
  · rintro ⟨hagents, hreserved, hfilled⟩
    exact ⟨hagents, hreserved, by omega⟩

/-- What is owed in `s` as `before` is owed in `t` as `after`, and the account is kept. -/
structure SlotsKept (before after : List AgentId) (s t : State) : Prop where
  keeps : ∀ taken, Accounted s before taken → Accounted t after taken

section
variable {s t u : State} {o p q : List AgentId}

theorem SlotsKept.trans (h : SlotsKept o p s t) (k : SlotsKept p q t u) : SlotsKept o q s u :=
  ⟨fun taken hs => k.keeps taken (h.keeps taken hs)⟩

theorem SlotsKept.refl (o : List AgentId) (s : State) : SlotsKept o o s s := ⟨fun _ h => h⟩

/-- The account reads the agents of the entries and the reply areas. -/
theorem SlotsKept.of_same (o : List AgentId) (hentries : agentsOf t.waitList = agentsOf s.waitList := by rfl)
    (hareas : ∀ a, (t.link a).replies = (s.link a).replies := by intro _; rfl)
    (hmgmt : t.mgmtLink.replies = s.mgmtLink.replies := by rfl) : SlotsKept o o s t := by
  refine ⟨fun taken hs => ?_⟩
  unfold Accounted
  simp only [hentries, hareas, hmgmt]
  exact hs

theorem SlotsKept.of_view (h : requestView t = requestView s) : SlotsKept o o s t :=
  .of_same o (congrArg (agentsOf ·.entries) h) (congrFun (congrArg RequestView.areas h)) (congrArg RequestView.mgmtArea h)

/-- Entries leave or join, and so do the replies owed to their agents. -/
theorem SlotsKept.entries {l : List WaitEntry} (h : (agentsOf l ++ p).Perm (agentsOf s.waitList ++ o)) :
    SlotsKept o p s (s.setWaitList l) := by
  refine ⟨fun taken ⟨hagents, hmgmt⟩ => ?_⟩
  exact ⟨fun a => by rw [State.setWaitList_waitList, h.count_eq]; exact hagents a, hmgmt⟩

theorem foldl_slotsKept {α : Type} {f : State → α → State} (h : ∀ t x, SlotsKept o o t (f t x)) :
    ∀ (l : List α) (s : State), SlotsKept o o s (l.foldl f s)
  | [], s => .refl o s
  | x :: l, s => (h s x).trans (foldl_slotsKept h l (f s x))

end

/-! ## Replies (R145) -/

section
variable (s : State) (a : AgentId) (o : List AgentId)

/-- The reply owed to an agent fills its slot. -/
theorem placeReply_slots (tag : Nat) (reply : AgentReply) : SlotsKept (a :: o) o s (s.placeReply a tag reply) := by
  refine ⟨fun taken ⟨hagents, hmgmt⟩ => ⟨fun b => ?_, hmgmt⟩⟩
  obtain ⟨hreserved, hroom⟩ := hagents b
  have hcount : (agentsOf s.waitList ++ a :: o).count b = (agentsOf s.waitList ++ o).count b + if a = b then 1 else 0 := by
    rw [List.perm_middle.count_eq, List.count_cons]
    simp
  rw [hcount] at hreserved
  unfold State.placeReply
  rw [State.modLink_link]
  by_cases hb : a = b
  · subst hb
    rw [if_pos rfl] at hreserved ⊢
    simp only [ReplyArea.place, List.length_append, List.length_singleton, State.modLink_waitList]
    omega
  · rw [if_neg hb] at hreserved
    rw [if_neg (Ne.symm hb)]
    exact ⟨hreserved, hroom⟩

theorem refuse_slots (tag : Nat) (code : RefusalCode) : SlotsKept (a :: o) o s (s.refuse a tag code) :=
  placeReply_slots s a o tag _

/-- Some entries that have left are all answered. -/
theorem refuseEntries_slots (code : RefusalCode) : ∀ (l : List WaitEntry) (s : State),
    SlotsKept (agentsOf l ++ o) o s (s.refuseEntries l code)
  | [], s => .refl o s
  | e :: l, s => (refuse_slots s e.agent (agentsOf l ++ o) e.tag code).trans (refuseEntries_slots code l _)

/-- The entries of an agent leave, each owed its reply. -/
theorem removeEntries_slots : SlotsKept o (agentsOf (s.entriesOf a) ++ o) s (s.removeEntries a) := by
  refine .entries ?_
  have hfilter : s.waitList.filter (fun e => e.agent != a) = s.waitList.filter fun e => !decide (e.agent = a) :=
    List.filter_congr fun e _ => by simp [bne, beq_eq_decide]
  rw [← List.append_assoc, ← List.map_append, hfilter, State.entriesOf]
  exact ((List.perm_append_comm.trans (List.filter_append_perm _ _)).map _).append_right _

end

/-! ## Entries that leave one by one, and recalls -/

section
variable (s : State) (o : List AgentId)

/-- The first entry of a kind leaves, owed its reply. -/
theorem eraseP_slots {p : WaitEntry → Bool} {e : WaitEntry} (he : e ∈ s.waitList) (hp : p e = true) {a : AgentId}
    (ha : ∀ x, p x = true → x.agent = a) : SlotsKept o (a :: o) s (s.setWaitList (s.waitList.eraseP p)) := by
  obtain ⟨x, before, after, -, hx, hsplit, herased⟩ := List.exists_of_eraseP he hp
  refine .entries ?_
  rw [herased, hsplit]
  simp only [List.map_append, List.map_cons, ha x hx]
  exact List.perm_middle.trans (List.perm_middle.symm.append_right o)

theorem dropConvert_slots (a : AgentId) (slot : Nat) (code : RefusalCode) :
    SlotsKept o o s (s.dropConvert a slot code) := by
  unfold State.dropConvert
  split
  · exact .refl o s
  · rename_i e hfind
    have hconverts : ∀ x : WaitEntry, x.converts a slot = true → x.agent = a := fun x hx => ((converts_iff ..).mp hx).1
    exact (eraseP_slots s o (List.mem_of_find?_eq_some hfind) (List.find?_some hfind) hconverts).trans
      (refuse_slots _ a o e.tag code)

theorem requestRecall_slots (slot : Nat) (wanted : Wanted) (cause : RecallCause) :
    SlotsKept o o s (s.requestRecall slot wanted cause) := by
  unfold State.requestRecall
  split
  · exact .refl o s
  · split
    · exact SlotsKept.trans (.of_same o) (dropConvert_slots _ o ..)
    · split
      · exact .of_same o
      · exact .refl o s

theorem recallConflicts_slots (c : Claim) : SlotsKept o o s (s.recallConflicts c) :=
  foldl_slotsKept (fun t _ => requestRecall_slots t o ..) _ s

/-! ## Admission and the walk (R37 to R42) -/

theorem grant_slots (c : Claim) (tag epoch : Nat) : SlotsKept (c.agent :: o) o s (s.grant c tag epoch) := by
  unfold State.grant
  split
  · have hcreate : SlotsKept (c.agent :: o) (c.agent :: o) s (s.createRecord c epoch) := by
      unfold State.createRecord
      split <;> exact .of_same _
    exact (hcreate.trans (placeReply_slots _ c.agent o ..)).trans (.of_same o)
  · exact (SlotsKept.trans (.of_same (c.agent :: o)) (placeReply_slots _ c.agent o ..)).trans (.of_same o)

/-- A request that joins the Wait List keeps its slot. -/
theorem appendEntry_slots (c : Claim) (tag epoch maxWait : Nat) (ob : Obstacle) :
    SlotsKept (c.agent :: o) o s (s.appendEntry c tag epoch maxWait ob) := by
  have hjoins : ∀ state, SlotsKept (c.agent :: o) o s
      (s.setWaitList (s.waitList ++ [c.entry tag epoch (s.timeBase + maxWait) state])) := fun state =>
    .entries (by simp only [List.map_append, List.append_assoc]; exact .refl _)
  unfold State.appendEntry
  dsimp only
  split
  · exact (hjoins _).trans (recallConflicts_slots _ o c)
  · exact hjoins _

theorem admission_slots (c : Claim) (tag epoch maxWait : Nat) :
    SlotsKept (c.agent :: o) o s (s.admission c tag epoch maxWait) := by
  unfold State.admission
  split
  · exact grant_slots ..
  · split
    · exact refuse_slots ..
    · split
      · exact refuse_slots ..
      · split
        · exact refuse_slots ..
        · exact appendEntry_slots ..

theorem setEntryState_slots (place : Nat) (state : EntryState) : SlotsKept o o s (s.setEntryState place state) := by
  refine .of_same o ?_
  have hclaims := congrArg (List.map fun t => t.1.agent) (map_entryTerms_modify s.waitList place state)
  rwa [List.map_map, List.map_map] at hclaims

/-- An entry that is granted leaves and is answered. -/
theorem visitGrant_slots {place : Nat} {e : WaitEntry} (he : s.waitList[place]? = some e) :
    SlotsKept o o s ((s.setWaitList (s.waitList.eraseIdx place)).grant e.claim e.tag e.epoch) := by
  refine SlotsKept.trans (p := e.agent :: o) (.entries ?_) (grant_slots _ o e.claim ..)
  obtain ⟨hsplit, herased⟩ := split_at_place he
  rw [herased, congrArg agentsOf hsplit]
  simp only [List.map_append, List.map_cons]
  exact List.perm_middle.trans (List.perm_middle.symm.append_right o)

theorem visitEntry_slots {place : Nat} {e : WaitEntry} (he : s.waitList[place]? = some e) :
    SlotsKept o o s (s.visitEntry place e).1 := by
  unfold State.visitEntry
  split
  · exact visitGrant_slots s o he
  · exact setEntryState_slots ..
  · exact .refl o s
  · exact setEntryState_slots ..
  · exact .refl o s
  · exact (setEntryState_slots ..).trans (recallConflicts_slots ..)
  · exact .refl o s
  · exact setEntryState_slots ..

theorem walkFrom_slots : ∀ (fuel place : Nat) (s : State), SlotsKept o o s (State.walkFrom fuel place s)
  | 0, _, s => .refl o s
  | fuel + 1, place, s => by
    unfold State.walkFrom
    split
    · exact .refl o s
    · rename_i e he
      exact (visitEntry_slots s o he).trans (walkFrom_slots fuel _ _)

theorem reevaluate_slots : SlotsKept o o s s.reevaluate := walkFrom_slots o _ 0 s

/-! ## Removal, downgrade and the end of a session (R21, R23, R85, R93) -/

theorem detachRecord_slots (cause : RemovalCause) (r : GrantRecord) :
    SlotsKept o o s (s.detachRecord cause r) := by
  rw [detachRecord_eq]
  exact .of_same o

theorem removeRecord_slots (cause : RemovalCause) (r : GrantRecord) :
    SlotsKept o o s (s.removeRecord cause r) := by
  unfold State.removeRecord
  split
  · exact ((detachRecord_slots ..).trans (.of_view (requestView_recordOutcome ..))).trans (dropConvert_slots ..)
  · exact detachRecord_slots ..

theorem removeRecords_slots (cause : RemovalCause) (a : AgentId) :
    SlotsKept o o s (s.removeRecords cause a) := foldl_slotsKept (fun t r => removeRecord_slots t o cause r) _ s

theorem completeIfDrained_slots : SlotsKept o o s s.completeIfDrained := by
  unfold State.completeIfDrained State.endSweep
  split
  · split
    · split <;> exact .of_same o
    · exact .refl o s
  · exact .refl o s

theorem downgradeRecord_slots (r : GrantRecord) : SlotsKept o o s (s.downgradeRecord r) := by
  unfold State.downgradeRecord
  extract_lets satisfied leavesPending s1 s2 s3
  have h1 : SlotsKept o o s s1 := .of_same o
  have h2 : SlotsKept o o s1 s2 := by
    unfold s2
    split
    · exact .of_same o
    · exact .refl o s1
  have h3 : SlotsKept o o s2 s3 := by
    unfold s3
    split
    · exact SlotsKept.trans (.of_same o) (completeIfDrained_slots ..)
    · exact .refl o s2
  split
  · exact ((h1.trans h2).trans h3).trans (.of_view (requestView_recordOutcome ..))
  · exact (h1.trans h2).trans h3

theorem endSession_slots (a : AgentId) : SlotsKept o o s (s.endSession a) :=
  (((removeEntries_slots s a o).trans (refuseEntries_slots o ..)).trans (removeRecords_slots ..)).trans (.of_same o)

/-- A fencing takes the agent's entries, slots and records (R93); the rest of it the laws about requests do not read. -/
theorem requestView_fenceSteps (a : AgentId) (cause : FenceCause) : requestView (s.fenceSteps a cause) =
    requestView (((s.removeEntries a).modLink a fun l => { l with replies := .empty }).removeRecords .fencing a) := by
  unfold State.fenceSteps
  simp [State.purgeSendList, State.clearChurn]

/-- A fencing answers nothing: the agent's entries and its slots go together (R93). It takes place while no reply is owed. -/
theorem fenceSteps_slots (a : AgentId) (cause : FenceCause) : SlotsKept [] [] s (s.fenceSteps a cause) := by
  have hemptied : SlotsKept [] [] s ((s.removeEntries a).modLink a fun l => { l with replies := .empty }) := by
    refine ⟨fun taken ⟨hagents, hmgmt⟩ => ⟨fun b => ?_, hmgmt⟩⟩
    rw [State.modLink_link, State.modLink_waitList, List.append_nil, count_agentsOf, State.entriesOf, State.removeEntries,
      State.setWaitList_waitList, List.filter_filter]
    by_cases hb : b = a
    · subst hb
      have hnone : s.waitList.filter (fun e => decide (e.agent = b) && e.agent != b) = [] := by simp
      rw [if_pos rfl, hnone]
      exact ⟨rfl, Nat.zero_le _⟩
    · have hsame : s.waitList.filter (fun e => decide (e.agent = b) && e.agent != a) = s.entriesOf b :=
        List.filter_congr fun e _ => by
          by_cases he : e.agent = b
          · simp [he, hb]
          · simp [he]
      rw [if_neg hb, hsame, ← count_agentsOf, ← List.append_nil (agentsOf s.waitList)]
      exact hagents b
  exact (hemptied.trans (removeRecords_slots _ [] .fencing a)).trans (.of_view (requestView_fenceSteps ..))

end

end Sys2Proof.Laws
end

section
/-!
SUPPORT. RECALLING entries and the recalls they wait for (R35, R41): what a request to recall does to the tables, and what
each operation does to the promise that an entry which waits for recalls conflicts with nothing ahead of it and has them all.
-/

namespace Sys2Proof.Laws

set_option Elab.async false

open Sys2Proof.Machine Sys2Proof.Safety

/-! ## The law in the words of claims -/

/-- The claims do not conflict (R5). -/
def Clear (c d : Claim) : Prop :=
  c.agent ≠ d.agent → c.extent.overlaps d.extent = true → c.mode = .shared ∧ d.mode = .shared

theorem Clear.symm {c d : Claim} (h : Clear c d) : Clear d c := fun hagent hover =>
  (h (Ne.symm hagent) (overlaps_comm c.extent d.extent ▸ hover)).symm

theorem hitsEntry_false (c : Claim) (e : WaitEntry) : c.hitsEntry e = false ↔ Clear c e.claim := by
  have hmode : ∀ m : Mode, m = .shared ↔ ¬m = .exclusive := fun m => by cases m <;> simp
  rw [← Bool.not_eq_true, hitsEntry_iff]
  unfold Clear
  simp only [hmode, WaitEntry.claim]
  tauto

/-- A record of a claim's agent, extent and mode conflicts with no claim that is clear of it. -/
theorem Clear.not_hits {c d : Claim} {r : GrantRecord} (h : Clear c d) (hholder : r.holder = d.agent)
    (hextent : r.extent = d.extent) (hmode : r.mode = d.mode) : ¬c.hitsRecord r = true := by
  rw [hitsRecord_iff, hholder, hextent, hmode]
  rintro ⟨-, hagent, hover, hclash⟩
  obtain ⟨hc, hd⟩ := h hagent hover
  rw [hc, hd] at hclash
  simp at hclash

/-- The record is under a recall that brings what is wanted. -/
def Recalled (wanted : Wanted) (r : GrantRecord) : Prop :=
  ∃ rc, r.recallRecord = some rc ∧ (wanted = .release → rc.wanted = .release)

/-- Every record that conflicts with the claim is under a recall that brings what it needs (R35). -/
def Covered (records : List GrantRecord) (c : Claim) : Prop :=
  ∀ r ∈ records, c.hitsRecord r = true → Recalled (wantedFor c.mode) r

/-- No RECALLING entry conflicts with an entry ahead of it. -/
def RecallingClear (l : List WaitEntry) : Prop := l.Pairwise fun f e => e.state = .recalling → Clear e.claim f.claim

theorem wantedFor_release (m : Mode) : wantedFor m = .release ↔ m = .exclusive := by cases m <;> simp [wantedFor]

theorem recallingClear_iff (l : List WaitEntry) : RecallingClear l ↔
    ∀ place e, l[place]? = some e → e.state = .recalling → ∀ f ∈ l.take place, Clear e.claim f.claim := by
  unfold RecallingClear
  rw [List.pairwise_iff_getElem]
  constructor
  · intro h place e he hstate f hf
    obtain ⟨i, hi, rfl⟩ := List.mem_iff_getElem.mp hf
    obtain ⟨hplace, rfl⟩ := List.getElem?_eq_some_iff.mp he
    rw [List.length_take] at hi
    rw [List.getElem_take]
    exact h i place (by omega) hplace (by omega) hstate
  · intro h i j hi hj hij hstate
    refine h j _ (List.getElem?_eq_getElem hj) hstate _ (List.mem_iff_getElem.mpr ⟨i, ?_, List.getElem_take⟩)
    rw [List.length_take]
    omega

theorem recallingEntryLaw_iff (s : State) : RecallingEntryLaw s ↔ RecallingClear s.waitList ∧
    ∀ e ∈ s.waitList, e.state = .recalling → Covered s.grantTable.records e.claim := by
  have hcovered : ∀ e : WaitEntry, Covered s.grantTable.records e.claim ↔
      ∀ r ∈ s.grantTable.records, e.claim.hitsRecord r = true →
        ∃ rc, r.recallRecord = some rc ∧ (e.mode = .exclusive → rc.wanted = .release) := fun e => by
    simp only [Covered, Recalled, wantedFor_release]
    rfl
  rw [recallingClear_iff]
  simp only [hcovered]
  unfold RecallingEntryLaw
  simp only [hitsEntry_false]
  constructor
  · intro h
    refine ⟨fun place e he hstate => (h place e he hstate).1, fun e he hstate => ?_⟩
    obtain ⟨place, hplace⟩ := List.mem_iff_getElem?.mp he
    exact (h place e hplace hstate).2
  · rintro ⟨hclear, hcover⟩ place e he hstate
    exact ⟨hclear place e he hstate, hcover e (List.mem_of_getElem? he) hstate⟩

/-! ## Records that ease every claim -/

/-- A claim whose recall of `r` is asked for has its recall of `q`. -/
def Eases (r q : GrantRecord) : Prop :=
  ∀ c : Claim, (c.hitsRecord r = true → Recalled (wantedFor c.mode) r) → c.hitsRecord q = true →
    Recalled (wantedFor c.mode) q

theorem Eases.refl (r : GrantRecord) : Eases r r := fun _ h => h

/-- Nothing but the recall changes, and what it brings it still brings. -/
theorem eases_of_recall {r q : GrantRecord} (hslot : q.slot = r.slot) (hholder : q.holder = r.holder)
    (hextent : q.extent = r.extent) (hmode : q.mode = r.mode) (h : ∀ w, Recalled w r → Recalled w q) : Eases r q := by
  intro c hc hq
  rw [hitsRecord_iff, hslot, hholder, hextent, hmode, ← hitsRecord_iff] at hq
  exact h _ (hc hq)

/-- Entries leave and records leave or ease: the law is kept. -/
theorem recallingEntryLaw_eased {s t : State} (hentries : t.waitList.Sublist s.waitList)
    (hrecords : ∀ q ∈ t.grantTable.records, ∃ r ∈ s.grantTable.records, Eases r q) (h : RecallingEntryLaw s) :
    RecallingEntryLaw t := by
  rw [recallingEntryLaw_iff] at *
  obtain ⟨hclear, hcover⟩ := h
  refine ⟨hclear.sublist hentries, fun e he hstate q hq => ?_⟩
  obtain ⟨r, hr, heases⟩ := hrecords q hq
  exact heases _ (hcover e (hentries.subset he) hstate r hr)

/-- The law reads the Wait List and the records alone. -/
theorem recallingEntryLaw_congr {s t : State} (hentries : t.waitList = s.waitList)
    (hrecords : t.grantTable.records = s.grantTable.records) (h : RecallingEntryLaw s) : RecallingEntryLaw t :=
  recallingEntryLaw_eased (hentries ▸ .refl _) (fun q hq => ⟨q, hrecords ▸ hq, .refl q⟩) h

/-! ## What a request to recall does to the tables (R58 to R60) -/

/-- From `s` to `t` nothing of the Grant Table changes but recalls: none brings less, and those of the records in `slots`
bring what is wanted. -/
def RecallsAsked (wanted : Wanted) (slots : List Nat) (s t : State) : Prop :=
  ∃ f : GrantRecord → GrantRecord, t.grantTable = { s.grantTable with records := s.grantTable.records.map f } ∧
    ∀ r ∈ s.grantTable.records, (∃ rc, f r = r.withRecall rc) ∧ (∀ w, Recalled w r → Recalled w (f r)) ∧
      (r.slot ∈ slots → Recalled wanted (f r))

section
variable {s t u : State} {wanted : Wanted}

theorem RecallsAsked.nothing (htable : t.grantTable = s.grantTable) {slots : List Nat}
    (h : ∀ r ∈ s.grantTable.records, r.slot ∈ slots → Recalled wanted r) : RecallsAsked wanted slots s t :=
  ⟨id, by rw [htable, List.map_id], fun r hr => ⟨⟨r.recallRecord, rfl⟩, fun _ h => h, h r hr⟩⟩

theorem RecallsAsked.trans {slots more : List Nat} (h : RecallsAsked wanted slots s t)
    (k : RecallsAsked wanted more t u) : RecallsAsked wanted (slots ++ more) s u := by
  obtain ⟨f, hf, hrecords⟩ := h
  obtain ⟨g, hg, krecords⟩ := k
  refine ⟨fun r => g (f r), by rw [hg, hf, List.map_map]; rfl, fun r hr => ?_⟩
  obtain ⟨⟨rc, hrc⟩, hkeeps, hasked⟩ := hrecords r hr
  obtain ⟨⟨rc', hrc'⟩, kkeeps, kasked⟩ := krecords (f r) (by rw [hf]; exact List.mem_map_of_mem hr)
  have hslot : (f r).slot = r.slot := by rw [hrc]; rfl
  refine ⟨⟨rc', hrc'.trans (by rw [hrc]; rfl)⟩, fun w hw => kkeeps w (hkeeps w hw), fun hmem => ?_⟩
  rcases List.mem_append.mp hmem with hold | hnew
  · exact kkeeps _ (hasked hold)
  · exact kasked (hslot ▸ hnew)

/-- One record is put under a recall that brings what the one before brought, and what is wanted. -/
theorem RecallsAsked.set (hi : IndexLaw s) {r : GrantRecord} (hr : r ∈ s.grantTable.records) (rc : RecallRecord)
    (htable : t.grantTable = (s.modRecord r.slot fun x => x.withRecall (some rc)).grantTable)
    (hkeeps : ∀ w, Recalled w r → w = .release → rc.wanted = .release)
    (hwanted : wanted = .release → rc.wanted = .release) :
    RecallsAsked wanted [r.slot] s t := by
  refine ⟨fun x => if x.slot = r.slot then x.withRecall (some rc) else x, htable, fun q hq => ?_⟩
  dsimp only
  by_cases hslot : q.slot = r.slot
  · obtain rfl := slot_unique hi.2.1 hq hr hslot
    rw [if_pos rfl]
    exact ⟨⟨_, rfl⟩, fun w hw => ⟨rc, rfl, hkeeps w hw⟩, fun _ => ⟨rc, rfl, hwanted⟩⟩
  · rw [if_neg hslot]
    exact ⟨⟨q.recallRecord, rfl⟩, fun _ h => h, fun hmem => absurd (List.mem_singleton.mp hmem) hslot⟩

theorem dropConvert_grantTable (s : State) (a : AgentId) (slot : Nat) (code : RefusalCode) :
    (s.dropConvert a slot code).grantTable = s.grantTable := (dropConvert_quiet ..).grantTable

theorem recordAt_slot {slot : Nat} {r : GrantRecord} (h : s.recordAt slot = some r) : r.slot = slot := by
  simpa using List.find?_some h

theorem requestRecall_asked (hi : IndexLaw s) (slot : Nat) (cause : RecallCause) :
    RecallsAsked wanted [slot] s (s.requestRecall slot wanted cause) := by
  unfold State.requestRecall
  cases hat : s.recordAt slot with
  | none =>
    refine .nothing rfl fun r hr hslot => ?_
    rw [State.recordAt, List.find?_eq_none] at hat
    exact absurd (decide_eq_true (List.mem_singleton.mp hslot)) (hat r hr)
  | some r =>
    have hr := recordAt_mem hat
    obtain rfl := recordAt_slot hat
    dsimp only
    cases hrc : r.recallRecord with
    | none =>
      refine .set hi hr _ (dropConvert_grantTable ..) (fun w hw => ?_) id
      obtain ⟨rc, hsome, -⟩ := hw
      rw [hrc] at hsome
      exact nomatch hsome
    | some rc =>
      dsimp only
      split
      · exact .set hi hr _ rfl (fun _ _ _ => rfl) fun _ => rfl
      · rename_i hstays
        refine .nothing rfl fun q hq hslot => ?_
        obtain rfl := slot_unique hi.2.1 hq hr (List.mem_singleton.mp hslot)
        refine ⟨rc, hrc, fun hwanted => ?_⟩
        cases hrw : rc.wanted with
        | release => rfl
        | downgrade => exact absurd ⟨hrw, hwanted⟩ hstays

/-- Requests for some records, one after the other. -/
theorem foldl_requestRecall_asked (cause : RecallCause) : ∀ (l : List GrantRecord) {s : State}, IndexLaw s →
    RecallsAsked wanted (l.map GrantRecord.slot) s
      (l.foldl (fun t r => t.requestRecall r.slot wanted cause) s)
  | [], _, _ => .nothing rfl fun _ _ h => absurd h List.not_mem_nil
  | x :: l, s, hi => (requestRecall_asked hi x.slot cause).trans
      (foldl_requestRecall_asked cause l ((requestRecall_moves s x.slot wanted cause).keeps (fun _ _ => Move.indexLaw) hi))

theorem recallConflicts_asked (hi : IndexLaw s) (c : Claim) :
    RecallsAsked (wantedFor c.mode) ((s.conflicting c).map GrantRecord.slot) s (s.recallConflicts c) :=
  foldl_requestRecall_asked .conflict _ hi

/-- What is asked for eases every claim. -/
theorem RecallsAsked.eases {slots : List Nat} (h : RecallsAsked wanted slots s t) :
    ∀ q ∈ t.grantTable.records, ∃ r ∈ s.grantTable.records, Eases r q := by
  obtain ⟨f, hf, hrecords⟩ := h
  rw [hf]
  refine List.forall_mem_map.mpr fun r hr => ⟨r, hr, ?_⟩
  obtain ⟨⟨rc, hrc⟩, hkeeps, -⟩ := hrecords r hr
  exact eases_of_recall (by rw [hrc]; rfl) (by rw [hrc]; rfl) (by rw [hrc]; rfl) (by rw [hrc]; rfl) hkeeps

/-! ### The CONVERTs that a recall answers (R59) -/

theorem dropConvert_waitList (s : State) (a : AgentId) (slot : Nat) (code : RefusalCode) :
    (s.dropConvert a slot code).waitList = s.waitList.eraseP fun e => e.converts a slot := (dropConvert_quiet ..).waitList

/-- A request to recall answers at most the CONVERT of the record it is for. -/
theorem requestRecall_waitList (s : State) (slot : Nat) (wanted : Wanted) (cause : RecallCause) :
    (s.requestRecall slot wanted cause).waitList = s.waitList ∨ ∃ r ∈ s.grantTable.records, r.slot = slot ∧
      (s.requestRecall slot wanted cause).waitList = s.waitList.eraseP fun e => e.converts r.holder slot := by
  unfold State.requestRecall
  cases hat : s.recordAt slot with
  | none => exact .inl rfl
  | some r =>
    obtain rfl := recordAt_slot hat
    dsimp only
    split
    · exact .inr ⟨r, recordAt_mem hat, rfl, dropConvert_waitList ..⟩
    · split
      · exact .inl rfl
      · exact .inl rfl

theorem requestRecall_sublist (s : State) (slot : Nat) (wanted : Wanted) (cause : RecallCause) :
    (s.requestRecall slot wanted cause).waitList.Sublist s.waitList := by
  rcases requestRecall_waitList s slot wanted cause with h | ⟨r, -, -, h⟩
  · exact h ▸ .refl _
  · exact h ▸ List.eraseP_sublist

theorem foldl_requestRecall_sublist (wanted : Wanted) (cause : RecallCause) : ∀ (l : List GrantRecord) (s : State),
    (l.foldl (fun t r => t.requestRecall r.slot wanted cause) s).waitList.Sublist s.waitList
  | [], _ => .refl _
  | x :: l, s => (foldl_requestRecall_sublist wanted cause l _).trans (requestRecall_sublist s x.slot wanted cause)

theorem recallConflicts_sublist (s : State) (c : Claim) : (s.recallConflicts c).waitList.Sublist s.waitList :=
  foldl_requestRecall_sublist _ _ _ s

end

/-! ## What the operations of a walk keep -/

section
variable {s : State}

theorem requestRecall_law (hi : IndexLaw s) (slot : Nat) (wanted : Wanted) (cause : RecallCause)
    (h : RecallingEntryLaw s) : RecallingEntryLaw (s.requestRecall slot wanted cause) :=
  recallingEntryLaw_eased (requestRecall_sublist ..) (requestRecall_asked hi slot cause).eases h

/-- Once the recalls of a claim are asked for, every record that conflicts with it is covered. -/
theorem recallConflicts_covered (hi : IndexLaw s) (c : Claim) :
    Covered (s.recallConflicts c).grantTable.records c := by
  obtain ⟨f, hf, hrecords⟩ := recallConflicts_asked hi c
  unfold Covered
  rw [hf]
  refine List.forall_mem_map.mpr fun r hr hhit => ?_
  obtain ⟨⟨rc, hrc⟩, -, hasked⟩ := hrecords r hr
  have hsame : c.hitsRecord r = true := by rwa [hrc] at hhit
  exact hasked (List.mem_map_of_mem (List.mem_filter.mpr ⟨hr, hsame⟩))

/-- The law where every RECALLING entry is covered but those whose recalls are now asked for. -/
theorem recallConflicts_law (hi : IndexLaw s) (c : Claim) (hclear : RecallingClear s.waitList)
    (hcover : ∀ e ∈ s.waitList, e.state = .recalling → e.claim = c ∨ Covered s.grantTable.records e.claim) :
    RecallingEntryLaw (s.recallConflicts c) := by
  rw [recallingEntryLaw_iff]
  refine ⟨hclear.sublist (recallConflicts_sublist s c), fun e he hstate => ?_⟩
  rcases hcover e ((recallConflicts_sublist s c).subset he) hstate with rfl | hcovered
  · exact recallConflicts_covered hi e.claim
  · intro q hq
    obtain ⟨r, hr, heases⟩ := (recallConflicts_asked hi c).eases q hq
    exact heases _ (hcovered r hr)

/-- An entry's state is set; where it becomes RECALLING, nothing ahead of it conflicts with it. -/
theorem recallingClear_set {l : List WaitEntry} {place : Nat} {e : WaitEntry} (he : l[place]? = some e)
    (state : EntryState) (h : RecallingClear l)
    (hahead : state = .recalling → ∀ f ∈ l.take place, Clear e.claim f.claim) :
    RecallingClear (l.set place { e with state := state }) := by
  obtain ⟨hplace, rfl⟩ := List.getElem?_eq_some_iff.mp he
  have hsplit := (split_at_place he).1
  unfold RecallingClear at *
  rw [List.set_eq_take_append_cons_drop, if_pos hplace]
  generalize hbefore : l.take place = before at *
  generalize l.drop (place + 1) = after at *
  rw [hsplit, List.pairwise_append, List.pairwise_cons] at h
  obtain ⟨hb, ⟨hea, ha⟩, hba⟩ := h
  refine List.pairwise_append.mpr ⟨hb, List.pairwise_cons.mpr ⟨hea, ha⟩, fun f hf x hx => ?_⟩
  rcases List.mem_cons.mp hx with rfl | hx
  · exact fun hstate => hahead hstate f hf
  · exact hba f hf x (List.mem_cons_of_mem _ hx)

/-- An entry becomes QUEUED, or stays so for another reason. -/
theorem setQueued_law {place : Nat} {e : WaitEntry} (he : s.waitList[place]? = some e) (why : BlockedBy)
    (h : RecallingEntryLaw s) : RecallingEntryLaw (s.setEntryState place (.queued why)) := by
  rw [setEntryState_eq he]
  rw [recallingEntryLaw_iff] at *
  obtain ⟨hclear, hcover⟩ := h
  refine ⟨recallingClear_set he _ hclear (by simp), fun x hx hstate => ?_⟩
  rcases List.mem_or_eq_of_mem_set hx with hold | rfl
  · exact hcover x hold hstate
  · exact nomatch hstate

/-- An entry becomes RECALLING and its recalls are asked for (R41). -/
theorem setRecalling_law (hi : IndexLaw s) {place : Nat} {e : WaitEntry} (he : s.waitList[place]? = some e)
    (hahead : ∀ f ∈ s.waitList.take place, Clear e.claim f.claim) (h : RecallingEntryLaw s) :
    RecallingEntryLaw ((s.setEntryState place .recalling).recallConflicts e.claim) := by
  rw [setEntryState_eq he]
  obtain ⟨hclear, hcover⟩ := (recallingEntryLaw_iff s).mp h
  refine recallConflicts_law (s := { s with waitList := s.waitList.set place _ }) hi _
    (recallingClear_set he _ hclear fun _ => hahead) fun x hx hstate => ?_
  rcases List.mem_or_eq_of_mem_set hx with hold | rfl
  · exact .inr (hcover x hold hstate)
  · exact .inl rfl

/-- A claim that no RECALLING entry conflicts with is granted, its subject, if it has one, being in place. -/
theorem tableGrant_law {c : Claim} (epoch : Nat) (h : RecallingEntryLaw s)
    (hclear : ∀ e ∈ s.waitList, e.state = .recalling → Clear e.claim c)
    (hsubject : ∀ slot, c.kind = .convert slot → c.mode = .exclusive ∧
      ∀ r ∈ s.grantTable.records, r.slot = slot → r.holder = c.agent ∧ r.extent = c.extent) :
    RecallingEntryLaw (tableGrant s c epoch) := by
  rw [recallingEntryLaw_iff] at *
  obtain ⟨hlist, hcover⟩ := h
  obtain ⟨g, hg⟩ := tableGrant_frame s c epoch
  have hrecords : ∀ q ∈ (tableGrant s c epoch).grantTable.records, q ∈ s.grantTable.records ∨
      q.holder = c.agent ∧ q.extent = c.extent ∧ q.mode = c.mode := by
    unfold tableGrant State.createRecord
    split
    · split
      · exact fun q hq => .inl hq
      · intro q hq
        rcases mem_insertRecord hq with rfl | hold
        · exact .inr ⟨rfl, rfl, rfl⟩
        · exact .inl hold
    · rename_i slot hkind
      obtain ⟨hmode, hplace⟩ := hsubject slot hkind
      rw [upgradeRecord_grantTable]
      refine List.forall_mem_map.mpr fun r hr => ?_
      by_cases hslot : r.slot = slot
      · obtain ⟨hholder, hextent⟩ := hplace r hr hslot
        refine .inr ⟨by simpa using hholder, by simpa using hextent, ?_⟩
        rw [upgradedIn, if_pos hslot, hmode]
      · rw [upgradedIn_other _ hslot]
        exact .inl hr
  have hentries : (tableGrant s c epoch).waitList = s.waitList := by rw [hg]
  rw [hentries]
  refine ⟨hlist, fun e he hstate q hq hhit => ?_⟩
  rcases hrecords q hq with hold | ⟨hholder, hextent, hmode⟩
  · exact hcover e he hstate q hold hhit
  · exact absurd hhit ((hclear e he hstate).not_hits hholder hextent hmode)

theorem grant_law {c : Claim} (tag epoch : Nat) (hs : LeasesSound s) (hfits : ClaimSound s c) (h : RecallingEntryLaw s)
    (hclear : ∀ e ∈ s.waitList, e.state = .recalling → Clear e.claim c) : RecallingEntryLaw (s.grant c tag epoch) := by
  have hq := grant_quiet s c tag epoch
  refine recallingEntryLaw_congr hq.waitList (by rw [hq.grantTable]) (tableGrant_law epoch h hclear fun slot hkind => ?_)
  obtain ⟨hmode, r, hr, hslot, hholder, hextent, -⟩ := hfits.subject slot hkind
  refine ⟨hmode, fun q hq hqslot => ?_⟩
  obtain rfl := slot_unique hs.index.2.1 hq hr (hqslot.trans hslot.symm)
  exact ⟨hholder, hextent⟩

/-! ## The obstacle of a claim, as the law reads it -/

/-- A claim behind entries that none of them stands in the way of is clear of them all. -/
theorem clear_of_obstacle {ahead : List WaitEntry} {c : Claim} (h : s.obstacle ahead c ≠ some .earlier) :
    ∀ f ∈ ahead, Clear c f.claim := by
  intro f hf
  rw [← hitsEntry_false, ← Bool.not_eq_true]
  intro hhit
  rw [obstacle_eq_firstObstacle] at h
  exact h ((firstObstacle_iff ..).2.1.mpr (List.any_eq_true.mpr ⟨f, hf, hhit⟩))

/-- The entry at a place is granted and leaves. -/
theorem visitGrant_law {place : Nat} {e : WaitEntry} (he : s.waitList[place]? = some e)
    (hfree : s.obstacle (s.waitList.take place) e.claim = none) (hs : LeasesSound s) (h : RecallingEntryLaw s) :
    RecallingEntryLaw ((s.setWaitList (s.waitList.eraseIdx place)).grant e.claim e.tag e.epoch) := by
  obtain ⟨hsplit, herased⟩ := split_at_place he
  obtain ⟨hclear, -⟩ := (recallingEntryLaw_iff s).mp h
  have hsub := List.eraseIdx_sublist s.waitList place
  have hleft : RecallingEntryLaw (s.setWaitList (s.waitList.eraseIdx place)) :=
    recallingEntryLaw_eased hsub (fun q hq => ⟨q, hq, .refl q⟩) h
  rw [herased] at hsub hleft ⊢
  refine grant_law _ _ (hs.sublist hsub) (hs.claimFits hsplit).toClaimSound hleft fun f hf hstate => ?_
  rcases List.mem_append.mp hf with hahead | hbehind
  · exact (clear_of_obstacle (by rw [hfree]; exact nofun) f hahead).symm
  · unfold RecallingClear at hclear
    rw [hsplit, List.pairwise_append, List.pairwise_cons] at hclear
    obtain ⟨-, ⟨hnext, -⟩, -⟩ := hclear
    exact hnext f hbehind hstate

theorem visitEntry_law {place : Nat} {e : WaitEntry} (he : s.waitList[place]? = some e) (hs : LeasesSound s)
    (h : RecallingEntryLaw s) : RecallingEntryLaw (s.visitEntry place e).1 := by
  unfold State.visitEntry
  split
  · exact visitGrant_law he ‹_› hs h
  · exact setQueued_law he _ h
  · exact h
  · exact setQueued_law he _ h
  · exact h
  · rename_i hob _
    exact setRecalling_law hs.index he (clear_of_obstacle (by rw [hob]; exact nofun)) h
  · exact h
  · exact setQueued_law he _ h

theorem walkFrom_law : ∀ (fuel place : Nat) (s : State), LeasesSound s → RecallingEntryLaw s →
    RecallingEntryLaw (State.walkFrom fuel place s)
  | 0, _, _, _, h => h
  | fuel + 1, place, s, hs, h => by
    unfold State.walkFrom
    split
    · exact h
    · rename_i e he
      exact walkFrom_law fuel _ _ ((visitEntry_moves he).keeps (fun _ _ => Move.leasesSound) hs) (visitEntry_law he hs h)

theorem reevaluate_law (hs : LeasesSound s) (h : RecallingEntryLaw s) : RecallingEntryLaw s.reevaluate :=
  walkFrom_law _ 0 s hs h

/-! ## Admission (R37 to R39) -/

/-- A request joins the tail, RECALLING only where nothing ahead conflicts with it. -/
theorem appendEntry_law {c : Claim} (tag epoch maxWait : Nat) {o : Obstacle} (hi : IndexLaw s)
    (ho : s.obstacle s.waitList c = some o) (h : RecallingEntryLaw s) :
    RecallingEntryLaw (s.appendEntry c tag epoch maxWait o) := by
  obtain ⟨hclear, hcover⟩ := (recallingEntryLaw_iff s).mp h
  have hjoins : ∀ {e : WaitEntry}, (e.state = .recalling → ∀ f ∈ s.waitList, Clear e.claim f.claim) →
      RecallingClear (s.waitList ++ [e]) := fun hahead =>
    List.pairwise_append.mpr ⟨hclear, List.pairwise_singleton .., fun f hf x hx => by
      rw [List.mem_singleton.mp hx]
      exact fun hstate => hahead hstate f hf⟩
  unfold State.appendEntry
  dsimp only
  split
  · rename_i hrecalling
    have hahead : s.obstacle s.waitList c ≠ some .earlier := by
      rw [ho]
      rintro ⟨⟩
      exact nomatch hrecalling
    refine recallConflicts_law (s := s.setWaitList (s.waitList ++ [_])) hi c
      (hjoins fun _ => clear_of_obstacle hahead) fun x hx hstate => ?_
    · rcases List.mem_append.mp hx with hold | hnew
      · exact .inr (hcover x hold hstate)
      · exact .inl (by rw [List.mem_singleton.mp hnew]; rfl)
  · rename_i why hqueued
    rw [recallingEntryLaw_iff, hqueued]
    refine ⟨hjoins (by simp [Claim.entry]), fun x hx hstate => ?_⟩
    rcases List.mem_append.mp hx with hold | hnew
    · exact hcover x hold hstate
    · rw [List.mem_singleton.mp hnew] at hstate
      exact nomatch hstate

theorem admission_law {c : Claim} (tag epoch maxWait : Nat) (hs : LeasesSound s) (hfits : ClaimSound s c)
    (h : RecallingEntryLaw s) : RecallingEntryLaw (s.admission c tag epoch maxWait) := by
  have hrefused : ∀ code, RecallingEntryLaw (s.refuse c.agent tag code) := fun _ => h
  unfold State.admission
  split
  · rename_i hfree
    exact grant_law _ _ hs hfits h fun f hf _ => (clear_of_obstacle (by rw [hfree]; exact nofun) f hf).symm
  · split
    · exact hrefused _
    · split
      · exact hrefused _
      · split
        · exact hrefused _
        · exact appendEntry_law _ _ _ hs.index ‹_› h

/-! ## Recalls resent, removal and downgrade (R21, R23, R67) -/

theorem resendRecall_law (hi : IndexLaw s) {r : GrantRecord} {rc : RecallRecord} (hr : r ∈ s.grantTable.records)
    (hrc : r.recallRecord = some rc) (h : RecallingEntryLaw s) : RecallingEntryLaw (s.resendRecall r rc) := by
  refine recallingEntryLaw_eased (List.Sublist.refl s.waitList)
    (RecallsAsked.set (wanted := .downgrade) (t := s.resendRecall r rc) hi hr _ rfl ?_ nofun).eases h
  rintro w ⟨rc', hrc', hwanted⟩ hrelease
  rw [hrc] at hrc'
  exact Option.some.inj hrc' ▸ hwanted hrelease

theorem detachRecord_law (cause : RemovalCause) (r : GrantRecord) (h : RecallingEntryLaw s) :
    RecallingEntryLaw (s.detachRecord cause r) := by
  rw [detachRecord_eq]
  exact recallingEntryLaw_eased (List.Sublist.refl s.waitList)
    (fun q hq => ⟨q, (List.mem_filter.mp hq).1, .refl q⟩) h

theorem dropConvert_law (a : AgentId) (slot : Nat) (code : RefusalCode) (h : RecallingEntryLaw s) :
    RecallingEntryLaw (s.dropConvert a slot code) :=
  recallingEntryLaw_eased (by rw [dropConvert_waitList]; exact List.eraseP_sublist)
    (by rw [dropConvert_grantTable]; exact fun q hq => ⟨q, hq, .refl q⟩) h

/-- The law across a change that the laws about requests do not read. -/
theorem recallingEntryLaw_of_view {t : State} (hview : requestView t = requestView s) (h : RecallingEntryLaw s) :
    RecallingEntryLaw t :=
  recallingEntryLaw_congr (congrArg RequestView.entries hview) (congrArg (·.table.records) hview) h

theorem removeRecord_law (cause : RemovalCause) (r : GrantRecord) (h : RecallingEntryLaw s) :
    RecallingEntryLaw (s.removeRecord cause r) := by
  unfold State.removeRecord
  split
  · exact dropConvert_law _ _ _ (recallingEntryLaw_of_view (requestView_recordOutcome ..) (detachRecord_law _ r h))
  · exact detachRecord_law _ r h

theorem removeRecords_law (cause : RemovalCause) (a : AgentId) (h : RecallingEntryLaw s) :
    RecallingEntryLaw (s.removeRecords cause a) := by
  unfold State.removeRecords
  generalize s.recordsOf a = l
  induction l generalizing s with
  | nil => exact h
  | cons r l ih => exact ih (removeRecord_law cause r h)

/-- A downgrade ends a recall that wants no more, and then only an EXCLUSIVE claim would conflict, which needs more (R23). -/
theorem eases_downgraded (s : State) (r : GrantRecord) : Eases r (downgradedRecord s r) := by
  intro c hc hhit
  rw [hitsRecord_iff] at hhit
  obtain ⟨hkind, hagent, hover, hmode⟩ := hhit
  have hexclusive : c.mode = .exclusive := hmode.resolve_right nofun
  obtain ⟨rc, hrc, hwanted⟩ := hc ((hitsRecord_iff c r).mpr ⟨hkind, hagent, hover, .inl hexclusive⟩)
  have hrelease : rc.wanted = .release := hwanted ((wantedFor_release _).mpr hexclusive)
  have hstays : wantsDowngrade r = false := by simp [wantsDowngrade, hrc, hrelease]
  exact ⟨rc, by simp [downgradedRecord, hstays, hrc], hwanted⟩

theorem downgradeRecord_law (hi : IndexLaw s) {r : GrantRecord} (hr : r ∈ s.grantTable.records)
    (h : RecallingEntryLaw s) : RecallingEntryLaw (s.downgradeRecord r) := by
  have hdowngraded : RecallingEntryLaw (downgraded s r) := by
    refine recallingEntryLaw_eased (List.Sublist.refl s.waitList) (List.forall_mem_map.mpr fun q hq => ?_) h
    by_cases hslot : q.slot = r.slot
    · obtain rfl := slot_unique hi.2.1 hq hr hslot
      rw [if_pos rfl]
      exact ⟨q, hq, eases_downgraded s q⟩
    · rw [if_neg hslot]
      exact ⟨q, hq, .refl q⟩
  rw [downgradeRecord_eq s r fun q hq => slot_unique hi.2.1 hq hr]
  split
  · exact recallingEntryLaw_of_view (requestView_recordOutcome ..) hdowngraded
  · exact hdowngraded

end

end Sys2Proof.Laws
end

section
/-!
SUPPORT. No grantable entry is left waiting (R36, R40): what changes can only tighten the obstacles of the entries before a
place, and a walk, which leaves every entry it passes with an obstacle that later visits do not take away.
-/

namespace Sys2Proof.Laws

set_option Elab.async false

open Sys2Proof.Machine Sys2Proof.Safety

/-! ## The entries before a place -/

/-- None of the first `n` entries is grantable. -/
def BlockedBefore (n : Nat) (s : State) : Prop :=
  ∀ place < n, ∀ e, s.waitList[place]? = some e → s.obstacle (s.waitList.take place) e.claim ≠ none

section
variable {s t u : State} {n : Nat}

theorem noneGrantable_blocked (h : NoneGrantable s) (n : Nat) : BlockedBefore n s := fun place _ e he => h place e he

theorem blocked_noneGrantable (h : BlockedBefore n s) (hn : s.waitList.length ≤ n) : NoneGrantable s := fun place e he =>
  h place ((List.getElem?_eq_some_iff.mp he).1.trans_le hn) e he

/-- The next entry is not grantable either. -/
theorem BlockedBefore.succ {place : Nat} {e : WaitEntry} (h : BlockedBefore place s) (he : s.waitList[place]? = some e)
    (hblocked : s.obstacle (s.waitList.take place) e.claim ≠ none) : BlockedBefore (place + 1) s := by
  intro i hi x hx
  rcases Nat.lt_succ_iff_lt_or_eq.mp hi with hlt | rfl
  · exact h i hlt x hx
  · rw [he] at hx
    exact Option.some.inj hx ▸ hblocked

/-- What stands in the way of a claim (R36). -/
theorem obstacle_ne_none (s : State) (ahead : List WaitEntry) (c : Claim) : s.obstacle ahead c ≠ none ↔
    (∃ d ∈ ahead.map WaitEntry.claim, ¬Clear c d) ∨ s.barred c = true ∨
      (∃ r ∈ s.grantTable.records, c.hitsRecord r = true) ∨ ¬s.hasRoom c = true := by
  have hearlier : (ahead.any fun e => c.hitsEntry e) = true ↔ ∃ d ∈ ahead.map WaitEntry.claim, ¬Clear c d := by
    simp only [List.any_eq_true, List.mem_map, exists_exists_and_eq_and, ← hitsEntry_false, Bool.not_eq_false]
  have hrecords : (!(s.conflicting c).isEmpty) = true ↔ ∃ r ∈ s.grantTable.records, c.hitsRecord r = true := by
    rw [blocked_iff]
    simp only [hitsRecord_iff]
  rw [obstacle_eq_firstObstacle, Ne, (firstObstacle_iff ..).1, hearlier, hrecords]
  simp only [not_and_or, not_not]

/-! ## Changes that tighten -/

/-- What stands in the way of the first `n` entries of `s` still does in `t`: they are the same claims, the barrier covers
what it covered, every lease is there and none is easier to pass, and no token is given back. -/
structure Tightens (n : Nat) (s t : State) : Prop where
  claims : (t.waitList.take n).map WaitEntry.claim = (s.waitList.take n).map WaitEntry.claim
  barred : ∀ c, s.barred c = true → t.barred c = true
  leases : ∀ r ∈ s.grantTable.records, ∃ q ∈ t.grantTable.records,
    q.slot = r.slot ∧ q.holder = r.holder ∧ q.extent = r.extent ∧ (r.mode = .exclusive → q.mode = .exclusive)
  counter : s.grantTable.counter ≤ t.grantTable.counter

theorem Tightens.trans (h : Tightens n s t) (k : Tightens n t u) : Tightens n s u where
  claims := k.claims.trans h.claims
  barred c hc := k.barred c (h.barred c hc)
  leases r hr := by
    obtain ⟨q, hq, hslot, hholder, hextent, hmode⟩ := h.leases r hr
    obtain ⟨p, hp, kslot, kholder, kextent, kmode⟩ := k.leases q hq
    exact ⟨p, hp, kslot.trans hslot, kholder.trans hholder, kextent.trans hextent, fun hm => kmode (hmode hm)⟩
  counter := h.counter.trans k.counter

/-- A barrier covers what it covered where the sweep's kind, range and mask are the same. -/
theorem barred_of_barrier (h : t.sweep.map barrierTerms = s.sweep.map barrierTerms) (c : Claim) : t.barred c = s.barred c := by
  have hbarred : ∀ u : State, u.barred c = ((u.sweep.map barrierTerms).any fun w =>
      w.1 != .census && inMask w.2.2 c.agent && c.extent.overlaps w.2.1 && (w.1 = .revoke || c.mode = .exclusive)) := by
    intro u
    unfold State.barred
    cases u.sweep <;> rfl
  rw [hbarred, hbarred, h]

/-- The Wait List's first claims, the Grant Table and the barrier are the same. -/
theorem Tightens.of_same (hclaims : (t.waitList.take n).map WaitEntry.claim = (s.waitList.take n).map WaitEntry.claim)
    (htable : t.grantTable = s.grantTable) (hbarrier : t.sweep.map barrierTerms = s.sweep.map barrierTerms) :
    Tightens n s t where
  claims := hclaims
  barred c hc := (barred_of_barrier hbarrier c).trans hc
  leases r hr := ⟨r, htable ▸ hr, rfl, rfl, rfl, id⟩
  counter := htable ▸ le_refl _

theorem Tightens.of_view (h : requestView t = requestView s) : Tightens n s t :=
  .of_same (congrArg (fun v => (v.entries.take n).map WaitEntry.claim) h) (congrArg RequestView.table h)
    (congrArg RequestView.barrier h)

theorem Tightens.blocked (h : Tightens n s t) (hs : BlockedBefore n s) : BlockedBefore n t := by
  intro place hplace e he
  have hget : ∀ u : State, ((u.waitList.take n).map WaitEntry.claim)[place]? = (u.waitList[place]?).map WaitEntry.claim :=
    fun u => by rw [List.getElem?_map, List.getElem?_take_of_lt hplace]
  have htake : ∀ u : State, (u.waitList.take place).map WaitEntry.claim =
      ((u.waitList.take n).map WaitEntry.claim).take place := fun u => by
    rw [← List.map_take, List.take_take, Nat.min_eq_left hplace.le]
  have hclaim : (s.waitList[place]?).map WaitEntry.claim = some e.claim := by
    rw [← hget, ← h.claims, hget, he]
    rfl
  obtain ⟨x, hx, hxe⟩ := Option.map_eq_some_iff.mp hclaim
  have hblocked := hs place hplace x hx
  rw [hxe, obstacle_ne_none, htake, ← h.claims, ← htake] at hblocked
  rw [obstacle_ne_none]
  refine hblocked.imp_right (.imp (h.barred _) (.imp ?_ ?_))
  · rintro ⟨r, hr, hhit⟩
    obtain ⟨q, hq, hslot, hholder, hextent, hmode⟩ := h.leases r hr
    refine ⟨q, hq, ?_⟩
    rw [hitsRecord_iff] at hhit ⊢
    rw [hslot, hholder, hextent]
    exact hhit.imp_right (.imp_right (.imp_right (.imp_right hmode)))
  · intro hfull hroom
    rw [hasRoom_iff] at hfull hroom
    obtain ⟨htoken, hslots⟩ := hroom
    refine hfull ⟨h.counter.trans_lt htoken, fun hkind => ?_⟩
    obtain ⟨m, hm, hunused⟩ := hslots hkind
    refine ⟨m, hm, fun r hr hslot => ?_⟩
    obtain ⟨q, hq, hsame, -⟩ := h.leases r hr
    exact hunused q hq (hsame.trans hslot)

/-- A change that tightens at every place and adds no entry keeps every entry waiting. -/
theorem Tightens.noneGrantable (h : ∀ n, Tightens n s t) (hs : NoneGrantable s) : NoneGrantable t :=
  blocked_noneGrantable ((h _).blocked (noneGrantable_blocked hs _)) (le_refl _)

/-! ## Grants and recalls tighten -/

theorem tableGrant_tightens (s : State) (c : Claim) (epoch n : Nat) : Tightens n s (tableGrant s c epoch) := by
  obtain ⟨g, hg⟩ := tableGrant_frame s c epoch
  have hgrown : s.grantTable.counter ≤ g.counter ∧ ∀ r ∈ s.grantTable.records, ∃ q ∈ g.records,
      q.slot = r.slot ∧ q.holder = r.holder ∧ q.extent = r.extent ∧ (r.mode = .exclusive → q.mode = .exclusive) := by
    have htable : g = (tableGrant s c epoch).grantTable := by rw [hg]
    rw [htable]
    unfold tableGrant State.createRecord
    split
    · split
      · exact ⟨le_refl _, fun r hr => ⟨r, hr, rfl, rfl, rfl, id⟩⟩
      · exact ⟨Nat.le_succ _, fun r hr =>
          ⟨r, (insertRecord_perm ..).mem_iff.mpr (List.mem_cons_of_mem _ hr), rfl, rfl, rfl, id⟩⟩
    · rename_i slot _
      rw [upgradeRecord_grantTable]
      refine ⟨Nat.le_succ _, fun r hr => ⟨_, List.mem_map_of_mem hr, ?_⟩⟩
      simp only [upgradedIn_slot, upgradedIn_holder, upgradedIn_extent, true_and]
      intro hmode
      unfold upgradedIn
      split
      · rfl
      · exact hmode
  rw [hg]
  exact { claims := rfl, barred := fun _ h => h, leases := hgrown.2, counter := hgrown.1 }

theorem grant_tightens (s : State) (c : Claim) (tag epoch n : Nat) : Tightens n s (s.grant c tag epoch) := by
  have hquiet := grant_quiet s c tag epoch
  have hsweep : (s.grant c tag epoch).sweep = (tableGrant s c epoch).sweep :=
    (grant_walkEffect s c tag epoch).sweep.trans (tableGrant_walkEffect s c epoch).sweep.symm
  exact (tableGrant_tightens s c epoch n).trans
    (.of_same (by rw [hquiet.waitList]) hquiet.grantTable (by rw [hsweep]))

/-- Recalls asked for tighten as far as no entry leaves. -/
theorem RecallsAsked.tightens {wanted : Wanted} {slots : List Nat} (h : RecallsAsked wanted slots s t)
    (hsweep : t.sweep = s.sweep) (htake : t.waitList.take n = s.waitList.take n) : Tightens n s t := by
  obtain ⟨f, hf, hrecords⟩ := h
  refine { claims := by rw [htake], barred := fun c hc => ?_, leases := fun r hr => ?_, counter := by rw [hf] }
  · exact (barred_of_barrier (by rw [hsweep]) c).trans hc
  · obtain ⟨⟨rc, hrc⟩, -⟩ := hrecords r hr
    exact ⟨f r, by rw [hf]; exact List.mem_map_of_mem hr, by rw [hrc]; rfl, by rw [hrc]; rfl, by rw [hrc]; rfl,
      fun hmode => by rw [hrc]; exact hmode⟩

theorem take_eraseP {α : Type} {p : α → Bool} : ∀ {l : List α} {n : Nat}, (∀ x ∈ l.take n, p x = false) →
    (l.eraseP p).take n = l.take n
  | [], _, _ => rfl
  | _ :: _, 0, _ => rfl
  | x :: l, n + 1, h => by
    have hx : ¬p x = true := by simpa using h x (by simp)
    rw [List.eraseP_cons_of_neg hx, List.take_succ_cons, List.take_succ_cons,
      take_eraseP fun y hy => h y (by simp [hy])]

/-- Requests to recall leave the first entries where none of them is a CONVERT of a record asked for. -/
theorem foldl_requestRecall_take (wanted : Wanted) (cause : RecallCause) : ∀ (l : List GrantRecord) {s : State},
    IndexLaw s → (∀ r ∈ s.grantTable.records, r.slot ∈ l.map GrantRecord.slot →
      ∀ e ∈ s.waitList.take n, e.converts r.holder r.slot = false) →
    (l.foldl (fun t r => t.requestRecall r.slot wanted cause) s).waitList.take n = s.waitList.take n
  | [], _, _, _ => rfl
  | x :: l, s, hi, hclear => by
    have hfirst : (s.requestRecall x.slot wanted cause).waitList.take n = s.waitList.take n := by
      rcases requestRecall_waitList s x.slot wanted cause with h | ⟨r, hr, hslot, h⟩
      · rw [h]
      · rw [h]
        exact take_eraseP fun e he => hslot ▸ hclear r hr (by simp [hslot]) e he
    obtain ⟨f, hf, hrecords⟩ := requestRecall_asked (wanted := wanted) hi x.slot cause
    refine (foldl_requestRecall_take wanted cause l
      ((requestRecall_moves s x.slot wanted cause).keeps (fun _ _ => Move.indexLaw) hi) ?_).trans hfirst
    rw [hf, hfirst]
    refine List.forall_mem_map.mpr fun r hr hmem => ?_
    obtain ⟨⟨rc, hrc⟩, -⟩ := hrecords r hr
    rw [hrc] at hmem ⊢
    exact hclear r hr (List.mem_cons_of_mem _ hmem)

/-- The recalls of a claim answer no CONVERT ahead of it that it is clear of: the record of such a CONVERT does not conflict
with the claim either (R36, R47). -/
theorem recallConflicts_take (hi : IndexLaw s) {c : Claim}
    (hclear : ∀ e ∈ s.waitList.take n, e.agent = c.agent ∨ Clear c e.claim ∧ SubjectWaits s e) :
    (s.recallConflicts c).waitList.take n = s.waitList.take n := by
  refine foldl_requestRecall_take _ _ _ hi fun r hr hmem e he => ?_
  obtain ⟨q, hq, hslot⟩ := List.mem_map.mp hmem
  obtain ⟨hqmem, hhit⟩ := List.mem_filter.mp hq
  obtain rfl := slot_unique hi.2.1 hqmem hr hslot
  rw [← Bool.not_eq_true, converts_iff]
  rintro ⟨hagent, hkind⟩
  rcases hclear e he with hsame | ⟨hapart, hsubject⟩
  · exact ((hitsRecord_iff ..).mp hhit).2.1 (hsame.symm.trans hagent)
  · obtain ⟨hmode, p, hp, hpslot, -, hextent, -⟩ := (subjectWaits_iff s e).mp hsubject _ hkind
    obtain rfl := slot_unique hi.2.1 hp hqmem hpslot
    obtain ⟨-, hother, hover, -⟩ := (hitsRecord_iff ..).mp hhit
    rw [hextent] at hover
    obtain ⟨-, hshared⟩ := hapart (fun hsame => hother (hsame.trans hagent)) hover
    exact absurd (hmode.symm.trans hshared) nofun

theorem recallConflicts_tightens (hi : IndexLaw s) {c : Claim}
    (hclear : ∀ e ∈ s.waitList.take n, e.agent = c.agent ∨ Clear c e.claim ∧ SubjectWaits s e) :
    Tightens n s (s.recallConflicts c) :=
  (recallConflicts_asked hi c).tightens (recallConflicts_walkEffect s c).sweep (recallConflicts_take hi hclear)

/-! ## The walk (R41) -/

theorem setEntryState_tightens (s : State) (place : Nat) (state : EntryState) (n : Nat) :
    Tightens n s (s.setEntryState place state) := by
  refine .of_same ?_ rfl rfl
  have hclaims := congrArg (List.map Prod.fst) (map_entryTerms_modify s.waitList place state)
  rw [List.map_map, List.map_map] at hclaims
  rw [List.map_take, List.map_take]
  exact congrArg _ hclaims

/-- An entry becomes RECALLING and its recalls are asked for: neither it nor what is ahead of it leaves. -/
theorem setRecalling_tightens (hs : LeasesSound s) {place : Nat} {e : WaitEntry} (he : s.waitList[place]? = some e)
    (hahead : ∀ f ∈ s.waitList.take place, Clear e.claim f.claim) :
    Tightens (place + 1) s ((s.setEntryState place .recalling).recallConflicts e.claim) := by
  refine (setEntryState_tightens s place .recalling _).trans (recallConflicts_tightens
    (s := s.setEntryState place .recalling) hs.index fun x hx => ?_)
  obtain ⟨hplace, rfl⟩ := List.getElem?_eq_some_iff.mp he
  rw [setEntryState_eq he, List.take_succ_eq_append_getElem (by simpa using hplace), List.take_set_of_le (le_refl _),
    List.getElem_set_self] at hx
  rcases List.mem_append.mp hx with hfront | hself
  · obtain ⟨hlease, -⟩ := (leasesSound_iff s).mp hs
    obtain ⟨-, -, -, -, hsubjects⟩ := hlease
    exact .inr ⟨hahead x hfront, hsubjects x (List.mem_of_mem_take hfront)⟩
  · exact .inl (by rw [List.mem_singleton.mp hself]; rfl)

/-- A visit leaves no grantable entry before the place visited next. -/
theorem visitEntry_blocked (hs : LeasesSound s) {place : Nat} {e : WaitEntry} (he : s.waitList[place]? = some e)
    (h : BlockedBefore place s) : BlockedBefore (s.visitEntry place e).2 (s.visitEntry place e).1 := by
  by_cases hfree : s.obstacle (s.waitList.take place) e.claim = none
  · rw [visitEntry_grantable hfree]
    have hleft : Tightens place s (s.setWaitList (s.waitList.eraseIdx place)) :=
      .of_same (by rw [State.setWaitList_waitList, List.take_eraseIdx_eq_take_of_le _ _ _ (le_refl _)]) rfl rfl
    exact (hleft.trans (grant_tightens ..)).blocked h
  · have hnext := h.succ he hfree
    unfold State.visitEntry
    split
    · exact (hfree ‹_›).elim
    · exact (setEntryState_tightens ..).blocked hnext
    · exact hnext
    · exact (setEntryState_tightens ..).blocked hnext
    · exact hnext
    · rename_i hob _
      exact (setRecalling_tightens hs he (clear_of_obstacle (by rw [hob]; exact nofun))).blocked hnext
    · exact hnext
    · exact (setEntryState_tightens ..).blocked hnext

/-- A walk that finds no grantable entry behind it leaves none at all. -/
theorem walk_noneGrantable {place : Nat} (hwalk : Walk s place t) (hs : LeasesSound s) (h : BlockedBefore place s) :
    NoneGrantable t := by
  induction hwalk with
  | ended s place hend => exact blocked_noneGrantable h hend
  | visited s place e t he _ ih =>
    exact ih ((visitEntry_moves he).keeps (fun _ _ => Move.leasesSound) hs) (visitEntry_blocked hs he h)

/-- One walk of the whole list suffices (R40). -/
theorem reevaluate_noneGrantable (hs : LeasesSound s) : NoneGrantable s.reevaluate :=
  walk_noneGrantable (walkFrom_walk s.waitList.length 0 s (by omega)) hs fun _ h => absurd h (Nat.not_lt_zero _)

/-! ## Admission (R37 to R39) -/

/-- A request that is not grantable joins the tail and leaves no grantable entry. -/
theorem appendEntry_noneGrantable {c : Claim} (tag epoch maxWait : Nat) {o : Obstacle} (hs : LeasesSound s)
    (ho : s.obstacle s.waitList c = some o) (h : NoneGrantable s) :
    NoneGrantable (s.appendEntry c tag epoch maxWait o) := by
  have hjoined : ∀ state, BlockedBefore (s.waitList.length + 1)
      (s.setWaitList (s.waitList ++ [c.entry tag epoch (s.timeBase + maxWait) state])) := by
    intro state
    have hbefore : BlockedBefore s.waitList.length
        (s.setWaitList (s.waitList ++ [c.entry tag epoch (s.timeBase + maxWait) state])) :=
      Tightens.blocked (.of_same (s := s) (by simp) rfl rfl) (noneGrantable_blocked h _)
    refine hbefore.succ List.getElem?_concat_length ?_
    rw [State.setWaitList_waitList, List.take_left]
    exact fun hnone => nomatch (show some o = none from ho.symm.trans hnone)
  unfold State.appendEntry
  dsimp only
  split
  · rename_i hrecalling
    have hahead : s.obstacle s.waitList c ≠ some .earlier := by
      rw [ho]
      rintro ⟨⟩
      exact nomatch hrecalling
    obtain ⟨⟨-, -, -, -, hsubjects⟩, -⟩ := (leasesSound_iff s).mp hs
    refine blocked_noneGrantable (Tightens.blocked (recallConflicts_tightens
      (s := s.setWaitList (s.waitList ++ [_])) hs.index fun x hx => ?_) (hjoined _))
      ((recallConflicts_sublist ..).length_le.trans (by simp))
    rcases List.mem_append.mp (List.mem_of_mem_take hx) with hold | hnew
    · exact .inr ⟨clear_of_obstacle hahead x hold, hsubjects x hold⟩
    · exact .inl (by rw [List.mem_singleton.mp hnew]; rfl)
  · exact blocked_noneGrantable (hjoined _) (by simp)

theorem admission_noneGrantable {c : Claim} (tag epoch maxWait : Nat) (hs : LeasesSound s) (h : NoneGrantable s) :
    NoneGrantable (s.admission c tag epoch maxWait) := by
  have hrefused : ∀ code, NoneGrantable (s.refuse c.agent tag code) := fun _ => h
  unfold State.admission
  split
  · exact Tightens.noneGrantable (fun n => grant_tightens s c tag epoch n) h
  · split
    · exact hrefused _
    · split
      · exact hrefused _
      · split
        · exact hrefused _
        · exact appendEntry_noneGrantable _ _ _ hs ‹_› h

end

end Sys2Proof.Laws
end

section
/-!
SUPPORT. Every command against the three laws about requests: the account of reply slots, the recalls of RECALLING entries,
and that no grantable entry waits. A part of a happening keeps the first two; the happening, which ends with a walk where
one is needed, keeps all three.
-/

namespace Sys2Proof.Laws

set_option Elab.async false

open Sys2Proof.Machine Sys2Proof.Safety

/-! ## Parts of a happening, and whole happenings -/

/-- A part of a happening: leases and claims stay sound, the account of reply slots and the recalls of RECALLING entries are
kept. What the part finds owed is `o` and what it leaves owed is `p`. -/
structure Part (o p : List AgentId) (s t : State) : Prop where
  sound : LeasesSound s → LeasesSound t
  slots : SlotsKept o p s t
  recalls : LeasesSound s → RecallingEntryLaw s → RecallingEntryLaw t

/-- A whole happening keeps all three laws. -/
structure Settled (o p : List AgentId) (s t : State) : Prop where
  slots : SlotsKept o p s t
  recalls : LeasesSound s → RecallingEntryLaw s → RecallingEntryLaw t
  waits : LeasesSound s → NoneGrantable s → NoneGrantable t

/-- The Grant Table, the Wait List and the barrier are the same. -/
structure SameTables (s t : State) : Prop where
  table : t.grantTable = s.grantTable := by rfl
  entries : t.waitList = s.waitList := by rfl
  barrier : t.sweep.map barrierTerms = s.sweep.map barrierTerms := by rfl

section
variable {s t u : State} {o p q : List AgentId}

theorem SameTables.of_view (h : requestView t = requestView s) : SameTables s t where
  table := congrArg RequestView.table h
  entries := congrArg RequestView.entries h
  barrier := congrArg RequestView.barrier h

theorem SameTables.recalls (h : SameTables s t) (hs : RecallingEntryLaw s) : RecallingEntryLaw t :=
  recallingEntryLaw_congr h.entries (by rw [h.table]) hs

theorem SameTables.waits (h : SameTables s t) (hs : NoneGrantable s) : NoneGrantable t :=
  Tightens.noneGrantable (fun _ => .of_same (by rw [h.entries]) h.table h.barrier) hs

theorem Part.trans (h : Part o p s t) (k : Part p q t u) : Part o q s u where
  sound hs := k.sound (h.sound hs)
  slots := h.slots.trans k.slots
  recalls hs hr := k.recalls (h.sound hs) (h.recalls hs hr)

/-- Parts that change no table. -/
theorem Part.of_tables (h : SameTables s t) (hslots : SlotsKept o p s t)
    (hvolume : t.params.volume = s.params.volume := by rfl) : Part o p s t where
  sound hs := hs.congr h.table h.entries hvolume
  slots := hslots
  recalls _ hr := h.recalls hr

theorem Settled.refl (o : List AgentId) (s : State) : Settled o o s s := ⟨.refl o s, fun _ h => h, fun _ h => h⟩

theorem Settled.of_tables (h : SameTables s t) (hslots : SlotsKept o p s t) : Settled o p s t :=
  ⟨hslots, fun _ hr => h.recalls hr, fun _ hw => h.waits hw⟩

/-- A happening that changes nothing the laws about requests read. -/
theorem Settled.of_view (h : requestView t = requestView s) : Settled o o s t :=
  .of_tables (.of_view h) (.of_view h)

/-- A walk completes what the parts before it leave (R40). -/
theorem Part.walked (h : Part o p s t) : Settled o p s t.reevaluate where
  slots := h.slots.trans (reevaluate_slots t p)
  recalls hs hr := reevaluate_law (h.sound hs) (h.recalls hs hr)
  waits hs _ := reevaluate_noneGrantable (h.sound hs)

/-- A part that lets no entry through may come before a happening. -/
theorem Part.settled (h : Part o p s t) (hwaits : LeasesSound s → NoneGrantable s → NoneGrantable t)
    (k : Settled p q t u) : Settled o q s u where
  slots := h.slots.trans k.slots
  recalls hs hr := k.recalls (h.sound hs) (h.recalls hs hr)
  waits hs hw := k.waits (h.sound hs) (hwaits hs hw)

/-- What changes no table may follow a happening. -/
theorem Settled.andThen (h : Settled o p s t) (htables : SameTables t u) (hslots : SlotsKept p q t u) :
    Settled o q s u where
  slots := h.slots.trans hslots
  recalls hs hr := htables.recalls (h.recalls hs hr)
  waits hs hw := htables.waits (h.waits hs hw)

theorem Moves.sound (h : Moves s t) (hs : LeasesSound s) : LeasesSound t := h.keeps (fun _ _ => Move.leasesSound) hs

end

/-! ## Requests -/

section
variable (s : State) (a : AgentId) (o : List AgentId)

theorem placeReply_settled (tag : Nat) (reply : AgentReply) : Settled (a :: o) o s (s.placeReply a tag reply) :=
  .of_tables {} (placeReply_slots ..)

theorem refuse_settled (tag : Nat) (code : RefusalCode) : Settled (a :: o) o s (s.refuse a tag code) :=
  placeReply_settled ..

variable {s}

theorem admission_settled {c : Claim} (tag epoch maxWait : Nat) (hfits : LeasesSound s → ClaimFits s c) :
    Settled (c.agent :: o) o s (s.admission c tag epoch maxWait) where
  slots := admission_slots ..
  recalls hs hr := admission_law _ _ _ hs (hfits hs).toClaimSound hr
  waits hs hw := admission_noneGrantable _ _ _ hs hw

theorem handleAcquire_settled (f : Frame AnswerableKind) : Settled [a] [] s (State.handleAcquire a s f) := by
  unfold State.handleAcquire
  split
  · exact refuse_settled ..
  · split
    · exact refuse_settled ..
    · split
      · exact refuse_settled ..
      · exact admission_settled (c := acquireClaim a _) [] _ _ _ fun _ => acquire_fits ‹_›

theorem downgradeRecord_part {r : GrantRecord} (hr : r ∈ s.grantTable.records) : Part o o s (s.downgradeRecord r) where
  sound := (downgradeRecord_moves s r).sound
  slots := downgradeRecord_slots ..
  recalls hs := downgradeRecord_law hs.index hr

theorem convertUp_settled {r : GrantRecord} (tag epoch maxWait : Nat) (hr : r ∈ s.grantTable.records)
    (hholder : r.holder = a) (hshared : r.mode = .shared)
    (hnone : ∀ e ∈ s.waitList, e.agent = a → e.kind ≠ .convert r.slot) :
    Settled [a] [] s (s.convertUp a tag epoch maxWait r) := by
  subst hholder
  unfold State.convertUp
  split
  · exact refuse_settled ..
  · rename_i hheld
    exact admission_settled (c := convertClaim r.holder r) [] _ _ _ fun hs =>
      convert_fits hs hr hshared (by simpa using hheld) hnone

theorem convertSubject_settled (tag epoch : Nat) (q : ConvertFields) :
    Settled [a] [] s (s.convertSubject a tag epoch q) := by
  unfold State.convertSubject
  split
  · exact refuse_settled ..
  · rename_i r hlookup
    obtain ⟨hr, -, hholder, -⟩ := lookup_some hlookup
    split
    · exact refuse_settled ..
    · rename_i hmode
      split
      · exact refuse_settled ..
      · rename_i hnone
        cases hq : q.mode with
        | shared => exact (downgradeRecord_part [a] hr).walked.andThen {} (placeReply_slots ..)
        | exclusive =>
          have hshared : r.mode = .shared := by
            cases hrm : r.mode with
            | shared => rfl
            | exclusive => exact absurd (hq.trans hrm.symm) hmode
          exact convertUp_settled a tag epoch _ hr hholder hshared ((converts_any ..).mp (by simpa using hnone))

theorem handleConvert_settled (f : Frame AnswerableKind) : Settled [a] [] s (State.handleConvert a s f) := by
  unfold State.handleConvert
  split
  · exact refuse_settled ..
  · split
    · exact refuse_settled ..
    · split
      · exact convertSubject_settled ..
      · exact refuse_settled ..

theorem handleQuery_settled (f : Frame AnswerableKind) : Settled [a] [] s (State.handleQuery a s f) := by
  unfold State.handleQuery
  split
  · exact refuse_settled ..
  · split
    · exact refuse_settled ..
    · split
      · exact refuse_settled ..
      · split
        · exact refuse_settled ..
        · exact placeReply_settled ..

/-! ### The end and the start of a session (R82, R83, R85) -/

theorem removeEntries_law (h : RecallingEntryLaw s) : RecallingEntryLaw (s.removeEntries a) :=
  recallingEntryLaw_eased List.filter_sublist (fun q hq => ⟨q, hq, .refl q⟩) h

theorem refuseEntries_law (l : List WaitEntry) (code : RefusalCode) (h : RecallingEntryLaw s) :
    RecallingEntryLaw (s.refuseEntries l code) := by
  have hquiet := refuseEntries_quiet s l code
  exact recallingEntryLaw_congr hquiet.waitList (by rw [hquiet.grantTable]) h

theorem endSession_part : Part o o s (s.endSession a) where
  sound := (endSession_moves s a).1.sound
  slots := endSession_slots ..
  recalls _ h := recallingEntryLaw_of_view (requestView_modSendList ..)
    (removeRecords_law .leave a (refuseEntries_law _ _ (removeEntries_law a h)))

theorem startSession_part (tag window : Nat) : Part (a :: o) o s (s.startSession a tag window) := by
  unfold State.startSession
  extract_lets epoch s1 s2
  have hstarted : requestView s2 = requestView s := by simp [s2, s1]
  exact (Part.of_tables (.of_view hstarted) (.of_view hstarted)).trans
    (.of_tables {} (placeReply_slots s2 a o tag _))

theorem acceptJoin_settled (tag window : Nat) : Settled [a] [] s (s.acceptJoin a tag window) := by
  have hstart := startSession_part (s := s) a [] tag window
  unfold State.acceptJoin
  split
  · exact ((endSession_part a [a]).trans (startSession_part ..)).walked
  · refine ⟨hstart.slots, hstart.recalls, fun _ hw => SameTables.waits ?_ hw⟩
    exact {}

theorem handleJoin_settled (f : Frame AnswerableKind) : Settled [a] [] s (State.handleJoin a s f) := by
  unfold State.handleJoin
  split
  · exact refuse_settled ..
  · exact acceptJoin_settled ..

theorem leaveSession_settled (tag : Nat) : Settled [a] [] s (s.leaveSession a tag) := by
  have hanswered : Part [a] [] (s.endSession a) ((s.endSession a).placeReply a tag .left) :=
    .of_tables {} (placeReply_slots ..)
  exact (((endSession_part a [a]).trans hanswered).trans (.of_tables {} (.of_same []))).walked

theorem handleLeave_settled (f : Frame AnswerableKind) : Settled [a] [] s (State.handleLeave a s f) := by
  unfold State.handleLeave
  split
  · exact refuse_settled ..
  · split
    · exact refuse_settled ..
    · exact leaveSession_settled ..

/-- A taking owes its agent a reply (R29, R140). -/
theorem afterTakingAnswerable_slots {k : AnswerableKind} {f : Frame AnswerableKind} {rest : List (Frame AnswerableKind)}
    (hhead : AnswerableHead s a k f rest) : SlotsKept [] [a] s (s.afterTakingAnswerable a f.epoch) := by
  obtain ⟨-, -, -, hfree, -⟩ := hhead
  refine SlotsKept.trans (t := s.modLink a _) ⟨fun taken ⟨hagents, hmgmt⟩ => ⟨fun b => ?_, hmgmt⟩⟩
    (.of_view (requestView_renewLease ..))
  obtain ⟨hreserved, hroom⟩ := hagents b
  rw [State.modLink_link, State.modLink_waitList, List.count_append, List.count_singleton]
  rw [List.append_nil] at hreserved
  by_cases hb : b = a
  · subst hb
    simp only [if_pos, ReplyArea.reserve, beq_self_eq_true]
    omega
  · have hne : (a == b) = false := beq_false_of_ne (Ne.symm hb)
    rw [if_neg hb, hne]
    exact ⟨hreserved, hroom⟩

theorem onAnswerable_settled {act : State → Frame AnswerableKind → State} (h : ∀ t f, Settled [a] [] t (act t f))
    (s : State) (k : AnswerableKind) : Settled [] [] s (s.onAnswerable a k act) := by
  rcases onAnswerable_cases s a k act with ⟨-, hidle⟩ | ⟨f, rest, hhead, htaken⟩
  · rw [hidle]
    exact .refl [] s
  · rw [htaken]
    have hquiet := afterTakingAnswerable_quiet s a f.epoch
    have hsweep : (s.afterTakingAnswerable a f.epoch).sweep = s.sweep := by
      unfold State.afterTakingAnswerable
      rcases renewLease_cases _ a f.epoch with hsame | ⟨-, -, hrenewed⟩
      · rw [hsame]; rfl
      · rw [hrenewed]; rfl
    have htables : SameTables s (s.afterTakingAnswerable a f.epoch) :=
      { table := hquiet.grantTable, entries := hquiet.waitList, barrier := by rw [hsweep] }
    exact (Part.of_tables htables (afterTakingAnswerable_slots a hhead) hquiet.volume).settled
      (fun _ => htables.waits) (h _ f)

/-! ## Closing frames -/

theorem closingChecks_settled {act : State → Frame ClosingKind → State} (h : ∀ t f, Settled [] [] t (act t f))
    (s : State) (f : Frame ClosingKind) : Settled [] [] s (State.closingChecks a act s f) := by
  have hlate : Settled [] [] s (s.lateFrame a) := .of_view (requestView_lateFrame ..)
  have herror : ∀ kind code, Settled [] [] s (s.protocolError a kind code) := fun _ _ =>
    .of_view (requestView_protocolError ..)
  unfold State.closingChecks
  split
  · exact hlate
  · split
    · exact hlate
    · exact hlate
    · split
      · exact herror ..
      · split
        · exact herror ..
        · exact h s f

theorem onClosing_settled {act : State → Frame ClosingKind → State} (h : ∀ t f, Settled [] [] t (act t f))
    (s : State) (k : ClosingKind) : Settled [] [] s (s.onClosing a k act) := by
  rcases onClosing_cases s a k act with ⟨-, hidle⟩ | ⟨f, rest, -, htaken⟩
  · rw [hidle]
    exact .refl [] s
  · rw [htaken]
    have hview := requestView_afterTakingClosing s a f.epoch
    exact (Part.of_tables (.of_view hview) (.of_view hview) (afterTakingClosing_quiet s a f.epoch).volume).settled
      (fun _ => (SameTables.of_view hview).waits) (closingChecks_settled a h _ f)

theorem releaseRecord_part {r : GrantRecord} (hr : r ∈ s.grantTable.records) : Part o o s (s.removeRecord .release r) where
  sound := (releaseRecord_moves hr).sound
  slots := removeRecord_slots ..
  recalls _ := removeRecord_law .release r

theorem handleRelease_settled (f : Frame ClosingKind) : Settled [] [] s (State.handleRelease a s f) := by
  unfold State.handleRelease
  split
  · exact .of_view (requestView_protocolError ..)
  · rename_i hlookup
    exact (releaseRecord_part [] (lookup_some hlookup).1).walked

theorem handleDowngrade_settled (f : Frame ClosingKind) : Settled [] [] s (State.handleDowngrade a s f) := by
  unfold State.handleDowngrade
  split
  · exact .of_view (requestView_protocolError ..)
  · rename_i hlookup
    split
    · exact .of_view (requestView_lateFrame ..)
    · exact (downgradeRecord_part [] (lookup_some hlookup).1).walked

/-- An entry that an agent's tag names leaves, is answered, and a walk follows (R48, R49). -/
theorem expelEntry_settled {tag : Nat} (code : RefusalCode) {e : WaitEntry} (he : e ∈ s.waitList) (ha : e.agent = a)
    (ht : e.tag = tag) : Settled [] [] s (s.expelEntry a tag code) := by
  have hleaves : Part [] [a] s (s.setWaitList (s.waitList.eraseP fun e => e.agent = a && e.tag = tag)) :=
    { sound := (setWaitList_moves s List.eraseP_sublist).sound
      slots := eraseP_slots s [] he (by simp [ha, ht]) fun x hx => by
        simp only [Bool.and_eq_true, decide_eq_true_eq] at hx
        exact hx.1
      recalls := fun _ h => recallingEntryLaw_eased List.eraseP_sublist (fun q hq => ⟨q, hq, .refl q⟩) h }
  exact (hleaves.trans (.of_tables {} (refuse_slots _ a [] tag code))).walked

theorem handleCancel_settled (f : Frame ClosingKind) : Settled [] [] s (State.handleCancel a s f) := by
  unfold State.handleCancel
  split
  · exact .of_view (requestView_lateFrame ..)
  · rename_i e hfind
    have hnamed := List.find?_some hfind
    simp only [Bool.and_eq_true, decide_eq_true_eq] at hnamed
    exact expelEntry_settled a _ (List.mem_of_find?_eq_some hfind) hnamed.1.1 hnamed.1.2

/-! ## Deadlines and fencing (R48, R66, R89, R93) -/

theorem waitDeadlinePasses_settled (tag : Nat) : Settled [] [] s (s.waitDeadlinePasses a tag) := by
  unfold State.waitDeadlinePasses
  split
  · exact .refl [] s
  · rename_i e hfind
    have hnamed := List.find?_some hfind
    simp only [Bool.and_eq_true, decide_eq_true_eq] at hnamed
    split
    · exact expelEntry_settled a _ (List.mem_of_find?_eq_some hfind) hnamed.1 hnamed.2
    · exact .refl [] s

theorem fenceSteps_part (cause : FenceCause) : Part [] [] s (s.fenceSteps a cause) where
  sound := (fenceSteps_moves s a cause).1.sound
  slots := fenceSteps_slots ..
  recalls _ h := recallingEntryLaw_of_view (requestView_fenceSteps ..)
    (removeRecords_law .fencing a (recallingEntryLaw_congr rfl rfl (removeEntries_law a h)))

theorem fence_settled (cause : FenceCause) : Settled [] [] s (s.fence a cause) := (fenceSteps_part a cause).walked

theorem resendRecall_settled {r : GrantRecord} {rc : RecallRecord} (hr : r ∈ s.grantTable.records)
    (hrc : r.recallRecord = some rc) : Settled [] [] s (s.resendRecall r rc) where
  slots := .of_same []
  recalls hs := resendRecall_law hs.index hr hrc
  waits _ := Tightens.noneGrantable fun _ =>
    { claims := rfl
      barred := fun _ h => h
      leases := fun x hx => ⟨_, List.mem_map_of_mem hx, by split <;> exact ⟨rfl, rfl, rfl, id⟩⟩
      counter := le_refl _ }

theorem recallDeadlinePasses_settled (slot : Nat) : Settled [] [] s (s.recallDeadlinePasses slot) := by
  unfold State.recallDeadlinePasses
  split
  · exact .refl [] s
  · rename_i r hr
    split
    · exact .refl [] s
    · rename_i rc hrc
      split
      · split
        · exact resendRecall_settled (recordAt_mem hr) hrc
        · exact fence_settled ..
      · exact .refl [] s

theorem leaseDeadlinePasses_settled : Settled [] [] s (s.leaseDeadlinePasses a) := by
  unfold State.leaseDeadlinePasses
  split
  · split
    · exact fence_settled ..
    · exact .refl [] s
  · exact .refl [] s

end

/-! ## Sweep steps (R106) -/

section
variable {s t : State}

/-- A step that made no entry leave and did not end the sweep needs no walk where it only tightens (R107). -/
theorem walkAfterStep_settled (h : Part [] [] s t)
    (hstay : LeasesSound s → s.waitList.length ≤ t.waitList.length → t.sweep ≠ none → ∀ n, Tightens n s t) :
    Settled [] [] s (s.walkAfterStep t) := by
  unfold State.walkAfterStep
  split
  · exact h.walked
  · rename_i hno
    rw [not_or, Nat.not_lt] at hno
    exact ⟨h.slots, h.recalls, fun hs => Tightens.noneGrantable (hstay hs hno.1 hno.2)⟩

/-- A record joins or leaves the pending set. -/
theorem setPending_law {f : GrantRecord → Bool} (h : RecallingEntryLaw s) :
    RecallingEntryLaw (s.setRecords (s.grantTable.records.map fun r => { r with sweepPending := f r })) :=
  recallingEntryLaw_eased (List.Sublist.refl s.waitList)
    (List.forall_mem_map.mpr fun r hr => ⟨r, hr, eases_of_recall rfl rfl rfl rfl fun _ h => h⟩) h

theorem setPending_eq (s : State) (slot : Nat) : (s.modRecord slot fun x => { x with sweepPending := true }) =
    s.setRecords (s.grantTable.records.map fun r => { r with sweepPending := r.slot = slot || r.sweepPending }) := by
  refine congrArg s.setRecords (List.map_congr_left fun r _ => ?_)
  split
  · rename_i hslot
    simp [hslot]
  · rename_i hslot
    simp [hslot]

theorem sweepRecall_part (s : State) (slot : Nat) (wanted : Wanted) : Part [] [] s (s.sweepRecall slot wanted) where
  sound := (sweepRecall_moves s slot wanted).sound
  slots := (requestRecall_slots s [] slot wanted .sweep).trans (.of_same [])
  recalls hs h := by
    unfold State.sweepRecall
    rw [setPending_eq]
    exact recallingEntryLaw_of_view (requestView_modSweep fun _ => rfl)
      (setPending_law (requestRecall_law hs.index slot wanted .sweep h))

theorem sweepRecall_tightens (hi : IndexLaw s) (slot : Nat) (wanted : Wanted)
    (hlength : s.waitList.length ≤ (s.sweepRecall slot wanted).waitList.length) (n : Nat) :
    Tightens n s (s.sweepRecall slot wanted) := by
  have hsame : (s.requestRecall slot wanted .sweep).waitList = s.waitList :=
    (requestRecall_sublist s slot wanted .sweep).eq_of_length_le hlength
  refine ((requestRecall_asked hi slot .sweep).tightens (requestRecall_walkEffect ..).sweep (by rw [hsame])).trans ?_
  unfold State.sweepRecall
  rw [setPending_eq]
  refine Tightens.trans ?_ (.of_view (requestView_modSweep fun _ => rfl))
  exact { claims := rfl, barred := fun _ h => h, leases := fun r hr => ⟨_, List.mem_map_of_mem hr, rfl, rfl, rfl, id⟩,
          counter := le_refl _ }

theorem sweepAction_settled (s : State) (kind : SweepKind) (r : GrantRecord) : Part [] [] s (s.sweepAction kind r) ∧
    (IndexLaw s → s.waitList.length ≤ (s.sweepAction kind r).waitList.length →
      ∀ n, Tightens n s (s.sweepAction kind r)) := by
  have hrecalls : ∀ wanted, Part [] [] s (s.sweepRecall r.slot wanted) ∧ (IndexLaw s →
      s.waitList.length ≤ (s.sweepRecall r.slot wanted).waitList.length →
      ∀ n, Tightens n s (s.sweepRecall r.slot wanted)) := fun wanted =>
    ⟨sweepRecall_part .., fun hi hlength => sweepRecall_tightens hi _ _ hlength⟩
  have hnothing : Part [] [] s s ∧ (IndexLaw s → s.waitList.length ≤ s.waitList.length → ∀ n, Tightens n s s) :=
    ⟨.of_tables {} (.refl [] s), fun _ _ n => .of_view rfl⟩
  unfold State.sweepAction
  split
  · exact hrecalls _
  · exact hrecalls _
  · exact hnothing
  · exact hnothing

theorem sweepReach_settled (s : State) (w : Sweep) (r : GrantRecord) :
    Settled [] [] s (s.walkAfterStep (s.sweepReach w r)) := by
  have hstep : ∀ u, requestView u = requestView s → u.params = s.params →
      Part [] [] s u := fun u hview hparams => .of_tables (.of_view hview) (.of_view hview) (by rw [hparams])
  unfold State.sweepReach
  dsimp only
  split
  · generalize hu : (s.modSweep fun w => { w with phase := .scanning (.after r.extent.start r.slot) }).modSweep
      (fun w => { w with tallies := w.tallies.addExamined r.mode }) = u
    have hview : requestView u = requestView s := by
      rw [← hu]
      exact Eq.trans (requestView_modSweep fun _ => rfl) (requestView_modSweep fun _ => rfl)
    have hpart : Part [] [] s u := hstep u hview (by rw [← hu]; rfl)
    obtain ⟨haction, htightens⟩ := sweepAction_settled u w.kind r
    refine walkAfterStep_settled (hpart.trans haction) fun hs hlength _ n => ?_
    have hentries : u.waitList = s.waitList := congrArg RequestView.entries hview
    exact (Tightens.of_view hview).trans (htightens (hpart.sound hs).index (by rw [hentries]; exact hlength) n)
  · have hview : requestView (s.modSweep fun w => { w with phase := .scanning (.after r.extent.start r.slot) }) =
        requestView s := requestView_modSweep fun _ => rfl
    exact walkAfterStep_settled (hstep _ hview rfl) fun _ _ _ n => .of_view hview

/-- The sweep ends, or nothing changes (R113). -/
theorem completeIfDrained_cases (s : State) : s.completeIfDrained = s ∨ s.completeIfDrained.sweep = none := by
  unfold State.completeIfDrained State.endSweep
  split
  · split
    · split
      · exact .inl rfl
      · exact .inr rfl
    · exact .inl rfl
  · exact .inl rfl

theorem finishScan_settled (s : State) : Settled [] [] s (s.walkAfterStep s.finishScan) := by
  have hview : requestView (s.modSweep fun w => { w with phase := .draining }) = requestView s :=
    requestView_modSweep fun _ => rfl
  have hquiet := completeIfDrained_quiet (s.modSweep fun w => { w with phase := .draining })
  refine walkAfterStep_settled ⟨(finishScan_moves s).sound, ?_, fun _ h => ?_⟩ fun _ _ hactive n => ?_
  · exact (SlotsKept.of_view hview).trans (completeIfDrained_slots ..)
  · exact recallingEntryLaw_congr hquiet.waitList (by rw [State.finishScan, hquiet.grantTable]) h
  · rcases completeIfDrained_cases (s.modSweep fun w => { w with phase := .draining }) with hsame | hended
    · rw [State.finishScan, hsame]
      exact .of_view hview
    · exact absurd hended hactive

theorem sweepOnce_settled (s : State) : Settled [] [] s s.sweepOnce := by
  unfold State.sweepOnce
  split
  · exact .refl [] s
  · split
    · exact .refl [] s
    · split
      · exact finishScan_settled s
      · split
        · exact sweepReach_settled ..
        · exact finishScan_settled s

end

/-! ## Management commands (Chapter 8) -/

/-- What a command comes to: a refusal, or a happening from `s`. -/
def AnswerSettled (s : State) : Answer → Prop
  | .refuse _ => True
  | .done t _ => Settled [] [] s t

section
variable {s : State}

theorem answerSettled_done {t : State} {result : MgmtResult} (h : Settled [] [] s t) :
    AnswerSettled s (.done t result) := h

/-- An answer that changes nothing the laws about requests read. -/
theorem answerSettled_view {t : State} {result : MgmtResult} (h : requestView t = requestView s) :
    AnswerSettled s (.done t result) := Settled.of_view h

/-- A test that refuses the command when it fails. -/
theorem answerSettled_if {p : Prop} [Decidable p] {x : Answer} {status : Status} (h : p → AnswerSettled s x) :
    AnswerSettled s (if p then x else .refuse status) := by
  split
  · exact h ‹p›
  · trivial

/-- A test that refuses the command when it holds. -/
theorem answerSettled_unless {p : Prop} [Decidable p] {x : Answer} {status : Status} (h : ¬p → AnswerSettled s x) :
    AnswerSettled s (if p then .refuse status else x) := by
  split
  · trivial
  · exact h ‹¬p›

/-- The taking of a command reserves a slot of LI-M, and its REPLY fills it (R157). -/
theorem commandSlots {k : CommandKind} {f : Frame CommandKind} {rest : List (Frame CommandKind)} {t : State}
    (hhead : CommandHead s k f rest) (h : SlotsKept [] [] s.afterTakingCommand t) (r : MgmtReply) :
    SlotsKept [] [] s (t.placeMgmtReply r) := by
  obtain ⟨-, -, -, hfree⟩ := hhead
  refine ⟨fun taken ⟨hagents, hreserved, hroom⟩ => ?_⟩
  have htaken : Accounted s.afterTakingCommand [] (taken + 1) :=
    ⟨hagents, congrArg (· + 1) hreserved, by
      simp only [State.afterTakingCommand, State.modMgmt_mgmtLink, ReplyArea.reserve]
      omega⟩
  obtain ⟨kagents, kreserved, kroom⟩ := h.keeps _ htaken
  refine ⟨kagents, ?_, ?_⟩
  · simp only [State.placeMgmtReply, State.modMgmt_mgmtLink, ReplyArea.place]
    omega
  · simp only [State.placeMgmtReply, State.modMgmt_mgmtLink, ReplyArea.place, List.length_append, List.length_singleton]
    omega

theorem onCommand_settled {act : State → List Byte → Answer} (h : ∀ t body, AnswerSettled t (act t body)) (s : State)
    (k : CommandKind) : Settled [] [] s (s.onCommand k act) := by
  rcases onCommand_cases s k act with ⟨-, hidle⟩ | ⟨f, rest, hhead, htaken⟩
  · rw [hidle]
    exact .refl [] s
  · rw [htaken]
    have hsound : LeasesSound s → LeasesSound s.afterTakingCommand := (afterTakingCommand_quiet s).moves.sound
    have hact := h s.afterTakingCommand f.body
    cases hanswer : act s.afterTakingCommand f.body with
    | refuse status => exact ⟨commandSlots hhead (.refl [] _) _, fun _ h => h, fun _ h => h⟩
    | done t result =>
      rw [hanswer] at hact
      have hdone : Settled [] [] s.afterTakingCommand t := hact
      exact ⟨commandSlots hhead hdone.slots _, fun hs hr => hdone.recalls (hsound hs) hr,
        fun hs hw => hdone.waits (hsound hs) hw⟩

theorem onAgent_settled {act : State → AgentId → Answer} (h : ∀ t a, AnswerSettled t (act t a)) (s : State)
    (body : List Byte) : AnswerSettled s (State.onAgent act s body) := by
  unfold State.onAgent
  split
  · trivial
  · split
    · trivial
    · exact h ..

/-- CONFIGURE can only raise the grant counter (R162). -/
theorem applyConfigure_settled (s : State) (q : ConfigureFields) : Settled [] [] s (s.applyConfigure q) where
  slots := .of_same []
  recalls _ := recallingEntryLaw_congr rfl rfl
  waits _ := Tightens.noneGrantable fun _ =>
    { claims := rfl
      barred := fun _ h => h
      leases := fun r hr => ⟨r, hr, rfl, rfl, rfl, id⟩
      counter := le_max_left .. }

theorem runConfigure_settled (s : State) (body : List Byte) : AnswerSettled s (s.runConfigure body) := by
  unfold State.runConfigure
  refine answerSettled_unless fun _ => ?_
  split
  · trivial
  · exact answerSettled_done (applyConfigure_settled ..)

@[simp] theorem requestView_setParams (s : State) (f : Params → Params) : requestView (s.setParams f) = requestView s := rfl

@[simp] theorem requestView_setGroup (s : State) (g : GroupId) (f : GroupSettings → GroupSettings) :
    requestView (s.setGroup g f) = requestView s := rfl

theorem setGroupParam_settled (s : State) (identifier selector value : Nat) :
    AnswerSettled s (s.setGroupParam identifier selector value) := by
  unfold State.setGroupParam
  split
  · trivial
  · dsimp only
    split <;> exact answerSettled_if fun _ => answerSettled_view (by simp)

theorem setAgentGroup_settled (s : State) (selector value : Nat) : AnswerSettled s (s.setAgentGroup selector value) := by
  unfold State.setAgentGroup
  split
  · trivial
  · split
    · trivial
    · exact answerSettled_view (by simp)

theorem setOneParam_settled (s : State) (q : SetParamFields) : AnswerSettled s (s.setOneParam q) := by
  unfold State.setOneParam
  split
  · exact answerSettled_unless fun _ => answerSettled_unless fun _ => answerSettled_view (by simp)
  · exact answerSettled_if fun _ => answerSettled_view (by simp)
  · exact answerSettled_if fun _ => answerSettled_view (by simp)
  · exact answerSettled_if fun _ => answerSettled_view (by simp)
  · exact setGroupParam_settled ..
  · exact setGroupParam_settled ..
  · exact setGroupParam_settled ..
  · exact setGroupParam_settled ..
  · exact setAgentGroup_settled ..
  · trivial

theorem runSetParam_settled (s : State) (body : List Byte) : AnswerSettled s (s.runSetParam body) := by
  unfold State.runSetParam
  refine answerSettled_unless fun _ => ?_
  split
  · trivial
  · exact setOneParam_settled ..

theorem runAdmit_settled (s : State) (a : AgentId) : AnswerSettled s (s.runAdmit a) :=
  answerSettled_view (requestView_modSession ..)

theorem runEvict_settled (s : State) (a : AgentId) : AnswerSettled s (s.runEvict a) := by
  have hcleared : requestView (s.modSession a fun x => { x with admitFlag := false }) = requestView s :=
    requestView_modSession ..
  unfold State.runEvict
  dsimp only
  split
  · exact answerSettled_done ((Part.of_tables (.of_view hcleared) (.of_view hcleared)).trans
      (fenceSteps_part a .evicted)).walked
  · exact answerSettled_view hcleared

theorem runAckChurn_settled (s : State) (a : AgentId) : AnswerSettled s (s.runAckChurn a) :=
  answerSettled_view (requestView_modMember ..)

theorem runPause_settled (s : State) (body : List Byte) : AnswerSettled s (s.runPause body) :=
  answerSettled_unless fun _ => answerSettled_unless fun _ => answerSettled_view rfl

theorem runResume_settled (s : State) (body : List Byte) : AnswerSettled s (s.runResume body) :=
  answerSettled_unless fun _ => answerSettled_unless fun _ => answerSettled_view rfl

/-- A sweep starts only where none is: its barrier can only bar more (R103). -/
theorem sweepStarts_settled (w : Sweep) (h : s.sweep = none) : Settled [] [] s { s with sweep := some w } where
  slots := .of_same []
  recalls _ := recallingEntryLaw_congr rfl rfl
  waits _ := Tightens.noneGrantable fun _ =>
    { claims := rfl
      barred := fun c hc => by simp [State.barred, h] at hc
      leases := fun r hr => ⟨r, hr, rfl, rfl, rfl, id⟩
      counter := le_refl _ }

theorem runSweepStart_settled (s : State) (body : List Byte) : AnswerSettled s (s.runSweepStart body) := by
  unfold State.runSweepStart
  refine answerSettled_unless fun _ => ?_
  split
  · trivial
  · refine answerSettled_unless fun hidle => ?_
    split
    · trivial
    · exact answerSettled_unless fun _ => answerSettled_unless fun _ =>
        answerSettled_done (sweepStarts_settled _ (by simpa using hidle))

/-- An aborted sweep leaves no pending record and no barrier, and a walk follows (R114). -/
theorem runSweepAbort_settled (s : State) (body : List Byte) : AnswerSettled s (s.runSweepAbort body) := by
  have hended : SlotsKept [] [] s.clearPending (s.clearPending.endSweep .aborted) := by
    unfold State.endSweep
    split <;> exact .of_same []
  have hquiet := endSweep_quiet s.clearPending .aborted
  have hpart : Part [] [] s (s.clearPending.endSweep .aborted) :=
    { sound := Moves.sound ((clearPending_moves s).trans hquiet.moves)
      slots := SlotsKept.trans (.of_same []) hended
      recalls := fun _ h => recallingEntryLaw_congr hquiet.waitList (by rw [hquiet.grantTable]) (setPending_law h) }
  exact answerSettled_unless fun _ => answerSettled_unless fun _ => answerSettled_done hpart.walked

theorem runQueryExtent_settled (s : State) (body : List Byte) : AnswerSettled s (s.runQueryExtent body) := by
  unfold State.runQueryExtent
  refine answerSettled_unless fun _ => ?_
  split
  · trivial
  · exact answerSettled_unless fun _ => answerSettled_view rfl

theorem runQueryAgent_settled (s : State) (a : AgentId) : AnswerSettled s (s.runQueryAgent a) := answerSettled_view rfl

theorem runReadCounters_settled (s : State) (body : List Byte) : AnswerSettled s (s.runReadCounters body) := by
  unfold State.runReadCounters State.readAgentCounters State.readMgmtCounters
  split
  · trivial
  · refine answerSettled_unless fun _ => answerSettled_unless fun _ => ?_
    split
    · exact answerSettled_view (by split <;> rfl)
    · exact answerSettled_view (by split <;> rfl)

theorem runReportResume_settled (s : State) (body : List Byte) : AnswerSettled s (s.runReportResume body) := by
  unfold State.runReportResume
  refine answerSettled_unless fun _ => ?_
  split <;> exact answerSettled_view rfl

/-! ### RESET_DIRECTORY (R171) -/

@[simp] theorem requestView_resetSession (s : State) (a : AgentId) : requestView (s.resetSession a) = requestView s := by
  unfold State.resetSession
  split <;> simp

/-- The reset answers every entry. -/
theorem resetTables_slots (s : State) : SlotsKept [] [] s s.resetTables := by
  unfold State.resetTables
  extract_lets s1 s2 s3 s4 s5
  have hleave : SlotsKept [] (agentsOf s.waitList ++ []) s (s.setWaitList []) := .entries (.refl _)
  have hended : SlotsKept [] [] s3 s4 := by
    unfold s4 State.endSweep
    split <;> exact .of_same []
  have hsessions : requestView s5 = requestView s4 := requestView_foldl requestView_resetSession allAgents s4
  have hanswered : SlotsKept [] [] s s1 := hleave.trans (refuseEntries_slots ..)
  have hdropped : ∀ u : State, SlotsKept [] [] u { u.dropAllRecords with sendLists := .const [] } := fun _ => .of_same []
  have hcleared : ∀ (u : State) members, SlotsKept [] [] u { u with churn := { u.churn with members := members } } :=
    fun _ _ => .of_same []
  exact (((hanswered.trans (hdropped s1)).trans hended).trans (.of_view hsessions)).trans (hcleared s5 _)

theorem resetTables_waitList (s : State) : s.resetTables.waitList = [] := by
  unfold State.resetTables
  extract_lets s1 s2 s3 s4 s5
  have hsessions : requestView s5 = requestView s4 := requestView_foldl requestView_resetSession allAgents s4
  exact (congrArg RequestView.entries hsessions).trans
    ((endSweep_quiet s3 .aborted).waitList.trans (refuseEntries_quiet (s.setWaitList []) s.waitList .directoryReset).waitList)

theorem runResetDirectory_settled (s : State) (body : List Byte) : AnswerSettled s (s.runResetDirectory body) := by
  have hempty := resetTables_waitList s
  refine answerSettled_unless fun _ => answerSettled_unless fun _ => answerSettled_done
    ⟨resetTables_slots s, fun _ _ place e he => ?_, fun _ _ place e he => ?_⟩
  · simp [hempty] at he
  · simp [hempty] at he

/-! ## Sends (R148, R158) -/

/-- A send takes at most the reply at the head of the lane. -/
theorem agentLinkSends_settled (s : State) (a : AgentId) : Settled [] [] s (s.agentLinkSends a) := by
  have hreply : Settled [] [] s (s.modLink a fun l => { l with replies := l.replies.sendHead, turn := .recallLane }) := by
    refine .of_tables {} ⟨fun taken ⟨hagents, hmgmt⟩ => ⟨fun b => ?_, hmgmt⟩⟩
    obtain ⟨hreserved, hroom⟩ := hagents b
    rw [State.modLink_link]
    split
    · refine ⟨hreserved, ?_⟩
      simp only [ReplyArea.sendHead, List.length_tail]
      omega
    · exact ⟨hreserved, hroom⟩
  have hleaves : ∀ choice, Settled [] [] s (s.leaveLane a choice) := by
    intro choice
    unfold State.leaveLane
    split
    · exact .of_view (requestView_modLink fun _ => rfl)
    · dsimp only
      split
      · exact hreply.andThen {} (.of_same [])
      · exact hreply
    · exact .of_view ((requestView_modSendList ..).trans (requestView_modLink fun _ => rfl))
    · exact .refl [] s
  unfold State.agentLinkSends
  split
  · split
    · exact .refl [] s
    · exact (hleaves _).andThen {} (.of_view (requestView_modLink fun _ => rfl))
  · exact .refl [] s

theorem mgmtLinkSends_settled (s : State) : Settled [] [] s s.mgmtLinkSends := by
  have hreply : Settled [] [] s (s.modMgmt fun l => { l with replies := l.replies.sendHead, turn := .report }) := by
    refine .of_tables {} ⟨fun taken ⟨hagents, hreserved, hroom⟩ => ⟨hagents, hreserved, ?_⟩⟩
    simp only [State.modMgmt_mgmtLink, ReplyArea.sendHead, List.length_tail]
    omega
  have hleaves : ∀ choice, Settled [] [] s (s.leaveMgmtLane choice) := by
    intro choice
    unfold State.leaveMgmtLane
    split
    · exact .of_view (requestView_modMgmt fun _ => rfl)
    · dsimp only
      split
      · exact hreply
      · exact hreply.andThen {} (.of_same [])
    · exact .of_tables {} (.of_same [])
    · exact .refl [] s
  unfold State.mgmtLinkSends
  split
  · split
    · exact .refl [] s
    · exact (hleaves _).andThen {} (.of_view (requestView_modMgmt fun _ => rfl))
  · exact .refl [] s

end

/-! ## Every command -/

/-- Every command but POWER_ON keeps the three laws. -/
theorem exec_settled {c : Instr} (hpower : c ≠ .powerOn) (s : State) : ∃ t, exec c s = .next t ∧ Settled [] [] s t := by
  cases c with
  | powerOn => exact absurd rfl hpower
  | millisecondTick =>
    refine ⟨_, rfl, ?_⟩
    split
    · exact .refl [] s
    · exact .of_view (requestView_timeAdvances s)
  | signalFound link => exact ⟨_, rfl, .of_view (requestView_signalFound ..)⟩
  | signalLost link => exact ⟨_, rfl, .of_view (requestView_signalLost ..)⟩
  | frameArrival a bytes => exact ⟨_, rfl, .of_view (requestView_frameArrives ..)⟩
  | join a => exact ⟨_, rfl, onAnswerable_settled a (fun _ f => handleJoin_settled a f) s .join⟩
  | acquire a => exact ⟨_, rfl, onAnswerable_settled a (fun _ f => handleAcquire_settled a f) s .acquire⟩
  | convert a => exact ⟨_, rfl, onAnswerable_settled a (fun _ f => handleConvert_settled a f) s .convert⟩
  | query a => exact ⟨_, rfl, onAnswerable_settled a (fun _ f => handleQuery_settled a f) s .query⟩
  | leave a => exact ⟨_, rfl, onAnswerable_settled a (fun _ f => handleLeave_settled a f) s .leave⟩
  | release a => exact ⟨_, rfl, onClosing_settled a (fun _ f => handleRelease_settled a f) s .release⟩
  | downgrade a => exact ⟨_, rfl, onClosing_settled a (fun _ f => handleDowngrade_settled a f) s .downgrade⟩
  | cancel a => exact ⟨_, rfl, onClosing_settled a (fun _ f => handleCancel_settled a f) s .cancel⟩
  | keepalive a => exact ⟨_, rfl, onClosing_settled a (fun t _ => .refl [] t) s .keepalive⟩
  | waitDeadline a tag => exact ⟨_, rfl, waitDeadlinePasses_settled a tag⟩
  | recallDeadline slot => exact ⟨_, rfl, recallDeadlinePasses_settled slot⟩
  | sessionLeaseExpiry a => exact ⟨_, rfl, leaseDeadlinePasses_settled a⟩
  | sweepStep => exact ⟨_, rfl, sweepOnce_settled s⟩
  | agentLinkSend a => exact ⟨_, rfl, agentLinkSends_settled s a⟩
  | endOfTransmission link =>
    cases link with
    | agent a => exact ⟨_, rfl, .of_view (requestView_modLink fun _ => rfl)⟩
    | mgmt => exact ⟨_, rfl, .of_view (requestView_modMgmt fun _ => rfl)⟩
  | mgmtFrameArrival bytes => exact ⟨_, rfl, .of_view (requestView_mgmtFrameArrives ..)⟩
  | mgmtLinkSend => exact ⟨_, rfl, mgmtLinkSends_settled s⟩
  | reportAck => exact ⟨_, rfl, .of_view (requestView_reportAckTaken s)⟩
  | configure => exact ⟨_, rfl, onCommand_settled runConfigure_settled s .configure⟩
  | setParam => exact ⟨_, rfl, onCommand_settled runSetParam_settled s .setParam⟩
  | admitAgent => exact ⟨_, rfl, onCommand_settled (onAgent_settled runAdmit_settled) s .admitAgent⟩
  | evict => exact ⟨_, rfl, onCommand_settled (onAgent_settled runEvict_settled) s .evict⟩
  | pause => exact ⟨_, rfl, onCommand_settled runPause_settled s .pause⟩
  | resume => exact ⟨_, rfl, onCommand_settled runResume_settled s .resume⟩
  | sweepStart => exact ⟨_, rfl, onCommand_settled runSweepStart_settled s .sweepStart⟩
  | sweepAbort => exact ⟨_, rfl, onCommand_settled runSweepAbort_settled s .sweepAbort⟩
  | queryExtent => exact ⟨_, rfl, onCommand_settled runQueryExtent_settled s .queryExtent⟩
  | queryAgent => exact ⟨_, rfl, onCommand_settled (onAgent_settled runQueryAgent_settled) s .queryAgent⟩
  | ackChurn => exact ⟨_, rfl, onCommand_settled (onAgent_settled runAckChurn_settled) s .ackChurn⟩
  | reportResume => exact ⟨_, rfl, onCommand_settled runReportResume_settled s .reportResume⟩
  | readCounters => exact ⟨_, rfl, onCommand_settled runReadCounters_settled s .readCounters⟩
  | resetDirectory => exact ⟨_, rfl, onCommand_settled runResetDirectory_settled s .resetDirectory⟩

/-- Every step: the part idles, powers on, or carries out one happening. -/
theorem step_settled {s t : State} (h : step s = .next t) :
    t = s ∨ (∃ rest, t = { State.reset with pending := rest }) ∨ ∃ rest, Settled [] [] { s with pending := rest } t := by
  unfold step at h
  split at h
  · exact .inl (Host.Outcome.next.inj h).symm
  · rename_i c rest _
    by_cases hpower : c = .powerOn
    · subst hpower
      exact .inr (.inl ⟨rest, (Host.Outcome.next.inj h).symm⟩)
    · obtain ⟨u, hexec, hsettled⟩ := exec_settled hpower { s with pending := rest }
      obtain rfl : u = t := Host.Outcome.next.inj (hexec.symm.trans h)
      exact .inr (.inr ⟨rest, hsettled⟩)

end Sys2Proof.Laws
end

section
/-!
The statements about reply slots, RECALLING entries and entries that nothing stands in the way of.
-/

namespace Sys2Proof.Proofs

open Sys2Proof.Machine Sys2Proof.Safety Sys2Proof.Laws

/-- Settles O15: recalls only ease, and an entry that becomes RECALLING has nothing ahead of it and asks for its recalls. -/
theorem recallingEntriesHaveTheirRecalls : Obligations.RecallingEntriesHaveTheirRecalls := by
  rintro s t ⟨hlease, hextent, -⟩ hs hstep
  rcases step_settled hstep with rfl | ⟨rest, rfl⟩ | ⟨rest, hsettled⟩
  · exact hs
  · exact reset_recallingEntryLaw
  · exact hsettled.recalls ((leasesSound_iff s).mpr ⟨hlease, hextent⟩).congr hs

/-- Settles O16: a happening that could let an entry through ends with a walk, which leaves every entry it passes blocked. -/
theorem nothingGrantableWaits : Obligations.NothingGrantableWaits := by
  rintro s t ⟨hlease, hextent, -⟩ hs hstep
  rcases step_settled hstep with rfl | ⟨rest, rfl⟩ | ⟨rest, hsettled⟩
  · exact hs
  · exact reset_noneGrantable
  · exact hsettled.waits ((leasesSound_iff s).mpr ⟨hlease, hextent⟩).congr hs

/-- Settles O8: every happening keeps the account, with no reply owed before it or after it. -/
theorem replySlotsStayAccounted : Obligations.ReplySlotsStayAccounted := by
  intro s t hs hstep
  rcases step_settled hstep with rfl | ⟨rest, rfl⟩ | ⟨rest, hsettled⟩
  · exact hs
  · exact reset_replySlotLaw
  · exact (replySlotLaw_iff t).mpr (hsettled.slots.keeps 0 ((replySlotLaw_iff s).mp hs))

end Sys2Proof.Proofs
end

section
/-!
SUPPORT. The arbiter of an agent link: what it chooses (R148), and what the send of each choice leaves (R63, R138, R145).
-/

namespace Sys2Proof.Laws

set_option Elab.async false

open Sys2Proof.Machine Sys2Proof.Safety

section
variable {s : State} {a : AgentId}

/-! ## The arbiter's choice (R148) -/

theorem recallLane_ready {m : RecallMessage} {rest : List RecallMessage} (hlist : s.sendList a = m :: rest)
    (hcredit : 0 < (s.link a).recallCredit) : s.recallLane a = some m := by
  rw [State.recallLane, if_pos hcredit, hlist, List.head?_cons]

/-- The recall lane has nothing to send without credit or without a message (R63). -/
theorem recallLane_none (h : ¬(0 < (s.link a).recallCredit ∧ s.sendList a ≠ [])) : s.recallLane a = none := by
  unfold State.recallLane
  split
  · rename_i hcredit
    rw [not_not.mp fun hne => h ⟨hcredit, hne⟩, List.head?_nil]
  · rfl

theorem agentChoice_control {c : ControlFrame} {rest : List ControlFrame} (h : (s.link a).control = c :: rest) :
    s.agentChoice a = some (.control c) := by
  simp only [State.agentChoice, h]

/-- A reply goes if the turn names it or the recall lane is not ready. -/
theorem agentChoice_reply {r : TaggedReply} {rest : List TaggedReply} (hcontrol : (s.link a).control = [])
    (hfilled : (s.link a).replies.filled = r :: rest)
    (hturn : (s.link a).turn = .reply ∨ ¬(0 < (s.link a).recallCredit ∧ s.sendList a ≠ [])) :
    s.agentChoice a = some (.reply r) := by
  simp only [State.agentChoice, hcontrol, hfilled, List.head?_cons]
  rcases hturn with hreply | hnot
  · cases s.recallLane a with
    | none => rfl
    | some m => exact if_pos hreply
  · rw [recallLane_none hnot]

/-- A RECALL goes if the turn names it or no reply waits. -/
theorem agentChoice_recall {m : RecallMessage} {rest : List RecallMessage} (hcontrol : (s.link a).control = [])
    (hlist : s.sendList a = m :: rest) (hcredit : 0 < (s.link a).recallCredit)
    (hturn : (s.link a).replies.filled = [] ∨ (s.link a).turn = .recallLane) :
    s.agentChoice a = some (.recallMessage m) := by
  simp only [State.agentChoice, hcontrol, recallLane_ready hlist hcredit]
  rcases hturn with hnone | hrecall
  · rw [hnone, List.head?_nil]
  · cases (s.link a).replies.filled with
    | nil => rfl
    | cons r rest => simp [hrecall]

/-- With no control frame, no reply and no RECALL to send, there is a CREDIT frame or nothing (R149). -/
theorem agentChoice_credit (hcontrol : (s.link a).control = []) (hfilled : (s.link a).replies.filled = [])
    (hnot : ¬(0 < (s.link a).recallCredit ∧ s.sendList a ≠ [])) :
    s.agentChoice a =
      if 0 < (s.link a).answerable.toReturn ∨ 0 < (s.link a).closing.toReturn then some .credit else none := by
  simp only [State.agentChoice, hcontrol, hfilled, recallLane_none hnot, List.head?_nil]

theorem exec_agentLinkSend {choice : AgentSend} (hrun : (s.link a).linkState = .run)
    (hidle : (s.link a).transmitter = .idle) (h : s.agentChoice a = some choice) :
    exec (.agentLinkSend a) s = .next (s.agentSends a choice) := by
  simp only [exec, execAgentLinkSend, State.agentLinkSends, if_pos (And.intro hrun hidle), h]

/-- A send with nothing to send (assumption 2). -/
theorem exec_agentLinkSend_nothing (h : s.agentChoice a = none) : exec (.agentLinkSend a) s = .next s := by
  simp only [exec, execAgentLinkSend, State.agentLinkSends, h, ite_self]

/-! ## What a send leaves (R138, R147) -/

/-- A link that has put `bytes` on the line with its credit returns in their header (R138, R147). -/
def sendingLink (l : AgentLink) (bytes : List Byte) : AgentLink :=
  { l with answerable := l.answerable.giveBack, closing := l.closing.giveBack, transmitter := .busy bytes }

theorem modLink_withLink (s : State) (a : AgentId) (l : AgentLink) (f : AgentLink → AgentLink) :
    (withLink s a l).modLink a f = withLink s a (f l) := by
  simp [State.modLink, PerAgent.modify, withLink]

theorem agentSends_control (c : ControlFrame) : s.agentSends a (.control c) =
    withLink s a { sendingLink (s.link a) (s.agentFrameBytes a (.control c)) with control := (s.link a).control.tail } :=
  modLink_withLink s a _ _

/-- A sent REFUSED is counted (R100). -/
theorem leaveLane_reply (r : TaggedReply) : s.leaveLane a (.reply r) =
    withLink
      (withSession s a
        (if isRefused r.reply then { s.session a with counters := (s.session a).counters.addRefusal } else s.session a))
      a { s.link a with replies := (s.link a).replies.sendHead, turn := .recallLane } := by
  have hsame : withSession s a (s.session a) = s :=
    congrArg (fun p => { s with sessions := p }) (PerAgent.set_get s.sessions a)
  obtain ⟨tag, reply⟩ := r
  cases reply with
  | refused code => rfl
  | _ => exact congrArg (withLink · a _) hsame.symm

theorem agentSends_reply (r : TaggedReply) : s.agentSends a (.reply r) =
    withSession
      (withLink s a { sendingLink (s.link a) (s.agentFrameBytes a (.reply r)) with
        replies := (s.link a).replies.sendHead, turn := .recallLane })
      a (if isRefused r.reply then { s.session a with counters := (s.session a).counters.addRefusal }
        else s.session a) := by
  rw [State.agentSends, leaveLane_reply, modLink_withLink]
  rfl

theorem agentSends_recall (m : RecallMessage) : s.agentSends a (.recallMessage m) =
    { withLink s a { sendingLink (s.link a) (s.agentFrameBytes a (.recallMessage m)) with
        recallCredit := (s.link a).recallCredit - 1, turn := .reply } with
      sendLists := s.sendLists.set a (s.sendList a).tail } :=
  modLink_withLink { s with sendLists := s.sendLists.set a (s.sendList a).tail } a
    { s.link a with recallCredit := (s.link a).recallCredit - 1, turn := .reply } _

theorem agentSends_credit : s.agentSends a .credit =
    withLink s a (sendingLink (s.link a) (s.agentFrameBytes a .credit)) := rfl

end

end Sys2Proof.Laws
end

section
/-!
The statement about the sends of an agent link.
-/

namespace Sys2Proof.Proofs

open Sys2Proof.Machine Sys2Proof.Safety Sys2Proof.Laws

/-- Settles O24: the arbiter's choice in each case, and what its send leaves. -/
theorem agentLinkSends : Obligations.AgentLinkSends := by
  intro s a hrun hidle l x returned frame recallReady
  refine ⟨fun c rest hcontrol => ?_, fun r rest hcontrol hfilled hturn => ?_,
    fun m rest hcontrol hlist hcredit hturn => ?_, fun hcontrol hfilled hnot => ?_⟩
  · have htail : (s.link a).control.tail = rest := congrArg List.tail hcontrol
    rw [exec_agentLinkSend hrun hidle (agentChoice_control hcontrol), agentSends_control, htail]
    rfl
  · have htail : (s.link a).replies.filled.tail = rest := congrArg List.tail hfilled
    rw [exec_agentLinkSend hrun hidle (agentChoice_reply hcontrol hfilled hturn), agentSends_reply,
      ReplyArea.sendHead, htail]
    rfl
  · rw [exec_agentLinkSend hrun hidle (agentChoice_recall hcontrol hlist hcredit hturn), agentSends_recall, hlist]
    rfl
  · have hchoice := agentChoice_credit hcontrol hfilled hnot
    by_cases hreturn : 0 < l.answerable.toReturn ∨ 0 < l.closing.toReturn
    · rw [if_pos hreturn] at hchoice ⊢
      rw [exec_agentLinkSend hrun hidle hchoice, agentSends_credit]
      rfl
    · rw [if_neg hreturn] at hchoice ⊢
      exact exec_agentLinkSend_nothing hchoice

end Sys2Proof.Proofs
end

section
/-!
SUPPORT. A recall whose deadline passes: resent below the attempt limit, and its holder fenced at it (R66 to R68).
-/

namespace Sys2Proof.Laws

set_option Elab.async false

open Sys2Proof.Machine Sys2Proof.Safety

variable {s : State} {r : GrantRecord} {rc : RecallRecord}

/-- At the count that is its deadline, a recall is resent or its holder is fenced (R66). -/
theorem recallDeadlinePasses_due (hi : IndexLaw s) (hr : r ∈ s.grantTable.records) (hrc : r.recallRecord = some rc)
    (hdue : rc.deadline = s.timeBase) : s.recallDeadlinePasses r.slot =
      if rc.attempts < s.params.attemptLimit then s.resendRecall r rc else s.fence r.holder .recallTimeout := by
  unfold State.recallDeadlinePasses
  rw [recordAt_eq hi hr]
  dsimp only
  rw [hrc]
  exact if_pos hdue

/-- A resend changes the recall of its record and the send list of the holder, and nothing else (R67). -/
theorem resendRecall_eq (hi : IndexLaw s) (hr : r ∈ s.grantTable.records) : s.resendRecall r rc =
    { s.setRecords (s.grantTable.records.map fun q =>
        if q = r then { r with recallRecord := some { rc with
          attempts := rc.attempts + 1
          deadline := s.timeBase + recallInterval s.params.recallTimeout (rc.attempts + 1) } }
        else q) with
      sendLists := s.sendLists.set r.holder (updateMessage (s.sendList r.holder) r.token
        (fun m => { m with attempt := rc.attempts + 1 }) (r.message rc.wanted (rc.attempts + 1))) } := by
  unfold State.resendRecall
  dsimp only
  rw [modRecord_withRecall hi hr]
  rfl

end Sys2Proof.Laws
end

section
/-!
The statement about a recall's deadline.
-/

namespace Sys2Proof.Proofs

open Sys2Proof.Machine Sys2Proof.Safety Sys2Proof.Laws

/-- Settles O49: the two outcomes of a recall deadline that is due. -/
theorem recallDeadlineResendsOrFences : Obligations.RecallDeadlineResendsOrFences := by
  intro s r rc hi hr hrc hdue h k interval
  have hexec : exec (.recallDeadline r.slot) s = .next (s.recallDeadlinePasses r.slot) := rfl
  rw [hexec, recallDeadlinePasses_due hi hr hrc hdue]
  refine ⟨fun hbelow => ?_, fun hexhausted => ?_⟩
  · rw [if_pos hbelow, resendRecall_eq hi hr]
    rfl
  · rw [if_neg (Nat.not_lt.mpr hexhausted), fence_eq s h .recallTimeout hi.2.1]

end Sys2Proof.Proofs
end

section
/-!
SUPPORT. Recall records and the RECALL messages that wait for them (R8, R57, R62): what each change of the Grant Table and
of a send list needs in order to keep the two in step.
-/

namespace Sys2Proof.Laws

set_option Elab.async false

open Sys2Proof.Machine Sys2Proof.Safety

/-! ## The two laws, record by record and message by message -/

/-- What `RecallLaw` asks of one record (R8, R57). -/
def RecallSound (r : GrantRecord) : Prop := ∀ rc, r.recallRecord = some rc →
  1 ≤ rc.attempts ∧ rc.attempts ≤ 8 ∧ (rc.wanted = .downgrade → r.mode = .exclusive)

/-- The record is agent `a`'s and its recall calls for the message (R62). -/
def CallsFor (r : GrantRecord) (a : AgentId) (m : RecallMessage) : Prop :=
  r.token = m.token ∧ r.holder = a ∧ r.extent = m.extent ∧
    ∃ rc, r.recallRecord = some rc ∧ rc.wanted = m.wanted ∧ rc.attempts = m.attempt

theorem recallLaw_iff (s : State) : RecallLaw s ↔ ∀ r ∈ s.grantTable.records, RecallSound r := Iff.rfl

theorem sendListLaw_iff (s : State) : SendListLaw s ↔ ∀ a, (s.sendList a).Pairwise (fun m n => m.token ≠ n.token) ∧
    ∀ m ∈ s.sendList a, ∃ r ∈ s.grantTable.records, CallsFor r a m := Iff.rfl

theorem recallSound_of_held {r : GrantRecord} (h : r.recallRecord = none) : RecallSound r := fun _ hrc =>
  nomatch h.symm.trans hrc

/-- The recall stays and the record does not become SHARED. -/
theorem RecallSound.of_same {r q : GrantRecord} (h : RecallSound r) (hrecall : q.recallRecord = r.recallRecord)
    (hmode : r.mode = .exclusive → q.mode = .exclusive) : RecallSound q := fun rc hrc => by
  obtain ⟨hmin, hmax, hwanted⟩ := h rc (hrecall ▸ hrc)
  exact ⟨hmin, hmax, fun hdowngrade => hmode (hwanted hdowngrade)⟩

/-- A record calls for the message of its recall. -/
theorem callsFor_message (r : GrantRecord) (rc : RecallRecord) :
    CallsFor (r.withRecall (some rc)) r.holder (r.message rc.wanted rc.attempts) :=
  ⟨rfl, rfl, rfl, rc, rfl, rfl, rfl⟩

/-- A recall calls for one message alone. -/
theorem CallsFor.eq_message {r : GrantRecord} {rc : RecallRecord} {a : AgentId} {m : RecallMessage} (h : CallsFor r a m)
    (hrc : r.recallRecord = some rc) : m = r.message rc.wanted rc.attempts := by
  obtain ⟨htoken, -, hextent, rc', hrc', hwanted, hattempt⟩ := h
  obtain rfl : rc' = rc := Option.some.inj (hrc'.symm.trans hrc)
  rw [GrantRecord.message, htoken, hextent, hwanted, hattempt]

theorem CallsFor.token {r : GrantRecord} {a : AgentId} {m : RecallMessage} (h : CallsFor r a m) : r.token = m.token := h.1

theorem CallsFor.holder {r : GrantRecord} {a : AgentId} {m : RecallMessage} (h : CallsFor r a m) : r.holder = a := h.2.1

theorem CallsFor.recalling {r : GrantRecord} {a : AgentId} {m : RecallMessage} (h : CallsFor r a m) :
    r.recallRecord ≠ none := by
  obtain ⟨-, -, -, rc, hrc, -⟩ := h
  simp [hrc]

/-! ## Changes that ease -/

section
variable {s t : State}

theorem recallLaw_congr (hrecords : t.grantTable.records = s.grantTable.records) (h : RecallLaw s) : RecallLaw t := by
  rw [recallLaw_iff, hrecords]
  exact h

/-- Messages leave, and the record of each that stays still calls for it. -/
theorem sendListLaw_of_sublist (hlists : ∀ a, (t.sendList a).Sublist (s.sendList a))
    (hrecords : ∀ a, ∀ m ∈ t.sendList a, ∀ r ∈ s.grantTable.records, CallsFor r a m →
      ∃ q ∈ t.grantTable.records, CallsFor q a m) (h : SendListLaw s) : SendListLaw t := by
  intro a
  obtain ⟨hdistinct, hcalled⟩ := (sendListLaw_iff s).mp h a
  refine ⟨hdistinct.sublist (hlists a), fun m hm => ?_⟩
  obtain ⟨r, hr, hcalls⟩ := hcalled m ((hlists a).subset hm)
  exact hrecords a m hm r hr hcalls

/-- No message changes, and each record still calls for what it called for. -/
theorem sendListLaw_of_records (hlists : t.sendLists = s.sendLists)
    (hrecords : ∀ a m, ∀ r ∈ s.grantTable.records, CallsFor r a m → ∃ q ∈ t.grantTable.records, CallsFor q a m)
    (h : SendListLaw s) : SendListLaw t :=
  sendListLaw_of_sublist (fun a => by rw [State.sendList, hlists]; exact List.Sublist.refl _) (fun a m _ => hrecords a m) h

theorem sendListLaw_congr (hrecords : t.grantTable.records = s.grantTable.records) (hlists : t.sendLists = s.sendLists)
    (h : SendListLaw s) : SendListLaw t :=
  sendListLaw_of_records hlists (fun _ _ r hr hcalls => ⟨r, hrecords ▸ hr, hcalls⟩) h

theorem Quiet.recallLaw (hq : Quiet s t) (h : RecallLaw s) : RecallLaw t := recallLaw_congr (by rw [hq.grantTable]) h

theorem Quiet.sendListLaw (hq : Quiet s t) (h : SendListLaw s) : SendListLaw t :=
  sendListLaw_congr (by rw [hq.grantTable]) hq.sendLists h

/-- Records join or leave the pending set. -/
theorem recallLaw_pending (f : GrantRecord → Bool) (h : RecallLaw s) :
    RecallLaw (s.setRecords (s.grantTable.records.map fun r => { r with sweepPending := f r })) :=
  List.forall_mem_map.mpr fun r hr => h r hr

theorem sendListLaw_pending (f : GrantRecord → Bool) (h : SendListLaw s) :
    SendListLaw (s.setRecords (s.grantTable.records.map fun r => { r with sweepPending := f r })) :=
  sendListLaw_of_records (s := s) rfl (fun _ _ _ hr hcalls => ⟨_, List.mem_map_of_mem hr, hcalls⟩) h

/-! ## Messages that are changed in their place (R60, R67) -/

section
variable {list : List RecallMessage} {token : Nat} {f : RecallMessage → RecallMessage} {fresh : RecallMessage}

theorem updateMessage_absent (h : ∀ m ∈ list, m.token ≠ token) : updateMessage list token f fresh = list ++ [fresh] :=
  if_neg (by simpa using h)

/-- After the update a list holds the messages of other tokens, and in one place the new one. -/
theorem mem_updateMessage (hf : ∀ m ∈ list, m.token = token → f m = fresh) {m : RecallMessage}
    (h : m ∈ updateMessage list token f fresh) : m ∈ list ∧ m.token ≠ token ∨ m = fresh := by
  by_cases habsent : ∀ n ∈ list, n.token ≠ token
  · rw [updateMessage_absent habsent] at h
    rcases List.mem_append.mp h with hold | hnew
    · exact .inl ⟨hold, habsent m hold⟩
    · exact .inr (List.mem_singleton.mp hnew)
  · rw [updateMessage, if_pos (by simpa using habsent)] at h
    obtain ⟨n, hn, rfl⟩ := List.mem_map.mp h
    by_cases htoken : n.token = token
    · rw [if_pos htoken]
      exact .inr (hf n hn htoken)
    · rw [if_neg htoken]
      exact .inl ⟨hn, htoken⟩

theorem updateMessage_distinct (hf : ∀ m ∈ list, m.token = token → f m = fresh) (hfresh : fresh.token = token)
    (h : list.Pairwise fun m n => m.token ≠ n.token) :
    (updateMessage list token f fresh).Pairwise fun m n => m.token ≠ n.token := by
  by_cases habsent : ∀ n ∈ list, n.token ≠ token
  · rw [updateMessage_absent habsent]
    refine List.pairwise_append.mpr ⟨h, List.pairwise_singleton .., fun m hm n hn => ?_⟩
    rw [List.mem_singleton.mp hn, hfresh]
    exact habsent m hm
  · have hsame : ∀ m ∈ list, (if m.token = token then f m else m).token = m.token := fun m hm => by
      split
      · rename_i htoken
        rw [hf m hm htoken, hfresh, htoken]
      · rfl
    rw [updateMessage, if_pos (by simpa using habsent), List.pairwise_map]
    exact h.imp_of_mem fun hm hn hne => by rwa [hsame _ hm, hsame _ hn]

end

/-! ## A record is put under a recall (R59, R60, R67) -/

variable {r : GrantRecord} {rc : RecallRecord}

theorem recallLaw_recalled (hi : IndexLaw s) (hr : r ∈ s.grantTable.records)
    (hsound : RecallSound (r.withRecall (some rc)))
    (htable : t.grantTable = (s.modRecord r.slot fun x => x.withRecall (some rc)).grantTable) (h : RecallLaw s) :
    RecallLaw t := by
  rw [recallLaw_iff, htable]
  refine List.forall_mem_map.mpr fun q hq => ?_
  split
  · rename_i hslot
    rwa [slot_unique hi.2.1 hq hr hslot]
  · exact h q hq

/-- A message in the send list of a record's holder, under the record's token, is one that the record calls for. -/
theorem callsFor_of_token (hi : IndexLaw s) (hr : r ∈ s.grantTable.records) (h : SendListLaw s) {a : AgentId}
    {m : RecallMessage} (hm : m ∈ s.sendList a) (htoken : m.token = r.token) : CallsFor r a m := by
  obtain ⟨q, hq, hcalls⟩ := ((sendListLaw_iff s).mp h a).2 m hm
  rwa [← token_unique hi.2.2.2.1 hq hr (hcalls.token.trans htoken)]

/-- The record comes under a recall and the message of that recall stands in the send list of its holder. -/
theorem sendListLaw_recalled {f : RecallMessage → RecallMessage} (hi : IndexLaw s) (hr : r ∈ s.grantTable.records)
    (htable : t.grantTable = (s.modRecord r.slot fun x => x.withRecall (some rc)).grantTable)
    (hlists : t.sendLists = s.sendLists.set r.holder
      (updateMessage (s.sendList r.holder) r.token f (r.message rc.wanted rc.attempts)))
    (hf : ∀ m, CallsFor r r.holder m → f m = r.message rc.wanted rc.attempts) (h : SendListLaw s) : SendListLaw t := by
  have hrecords : t.grantTable.records = s.grantTable.records.map fun x =>
      if x.slot = r.slot then x.withRecall (some rc) else x := by rw [htable]; rfl
  have hself : r.withRecall (some rc) ∈ t.grantTable.records := by
    rw [hrecords]
    exact List.mem_map.mpr ⟨r, hr, if_pos rfl⟩
  have hother : ∀ q ∈ s.grantTable.records, q ≠ r → q ∈ t.grantTable.records := fun q hq hne => by
    rw [hrecords]
    exact List.mem_map.mpr ⟨q, hq, if_neg fun hslot => hne (slot_unique hi.2.1 hq hr hslot)⟩
  have hupdate : ∀ m ∈ s.sendList r.holder, m.token = r.token → f m = r.message rc.wanted rc.attempts :=
    fun m hm htoken => hf m (callsFor_of_token hi hr h hm htoken)
  intro a
  obtain ⟨hdistinct, hcalled⟩ := (sendListLaw_iff s).mp h a
  rw [State.sendList, hlists]
  by_cases ha : a = r.holder
  · subst ha
    rw [PerAgent.get_set_self]
    refine ⟨updateMessage_distinct hupdate rfl hdistinct, fun m hm => ?_⟩
    rcases mem_updateMessage hupdate hm with ⟨hold, hne⟩ | rfl
    · obtain ⟨q, hq, hcalls⟩ := hcalled m hold
      exact ⟨q, hother q hq fun he => hne (hcalls.token.symm.trans (by rw [he])), hcalls⟩
    · exact ⟨_, hself, callsFor_message r rc⟩
  · rw [PerAgent.get_set_ne _ ha]
    refine ⟨hdistinct, fun m hm => ?_⟩
    obtain ⟨q, hq, hcalls⟩ := hcalled m hm
    exact ⟨q, hother q hq fun he => ha (hcalls.holder.symm.trans (by rw [he])), hcalls⟩

theorem issueRecall_recallLaw (hi : IndexLaw s) (hr : r ∈ s.grantTable.records) {wanted : Wanted} (cause : RecallCause)
    (hwanted : wanted = .downgrade → r.mode = .exclusive) (h : RecallLaw s) :
    RecallLaw (s.issueRecall r wanted cause) := by
  refine recallLaw_recalled hi hr (fun rc hrc => ?_) (dropConvert_grantTable ..) h
  rw [← Option.some.inj hrc]
  exact ⟨le_refl 1, Nat.one_le_ofNat, hwanted⟩

/-- No message waits for a record that is HELD, so a first one joins (R59). -/
theorem issueRecall_sendListLaw (hi : IndexLaw s) (hr : r ∈ s.grantTable.records) (hheld : r.recallRecord = none)
    (wanted : Wanted) (cause : RecallCause) (h : SendListLaw s) : SendListLaw (s.issueRecall r wanted cause) := by
  have hnone : ∀ m ∈ s.sendList r.holder, m.token ≠ r.token := fun m hm htoken =>
    (callsFor_of_token hi hr h hm htoken).recalling hheld
  refine sendListLaw_recalled (f := fun _ => r.message wanted 1) hi hr (dropConvert_grantTable ..) ?_ (fun _ _ => rfl) h
  rw [updateMessage_absent hnone]
  exact (dropConvert_quiet ..).sendLists

theorem escalateRecall_recallLaw (hi : IndexLaw s) (hr : r ∈ s.grantTable.records) (hrc : r.recallRecord = some rc)
    (cause : RecallCause) (h : RecallLaw s) : RecallLaw (s.escalateRecall r rc cause) := by
  obtain ⟨hmin, hmax, -⟩ := h r hr rc hrc
  refine recallLaw_recalled hi hr (fun rc' hrc' => ?_) rfl h
  rw [← Option.some.inj hrc']
  exact ⟨hmin, hmax, nofun⟩

theorem escalateRecall_sendListLaw (hi : IndexLaw s) (hr : r ∈ s.grantTable.records) (cause : RecallCause)
    (h : SendListLaw s) : SendListLaw (s.escalateRecall r rc cause) :=
  sendListLaw_recalled (rc := { rc with wanted := .release, cause := cause }) hi hr rfl rfl (fun _ _ => rfl) h

/-- Below the attempt limit, which is at most 8, one attempt more is at most 8 (R67). -/
theorem resendRecall_recallLaw (hi : IndexLaw s) (hp : ParamLaw s) (hr : r ∈ s.grantTable.records)
    (hrc : r.recallRecord = some rc) (hbelow : rc.attempts < s.params.attemptLimit) (h : RecallLaw s) :
    RecallLaw (s.resendRecall r rc) := by
  obtain ⟨-, -, hwanted⟩ := h r hr rc hrc
  obtain ⟨-, -, hlimit, -⟩ := hp
  simp only [attemptLimitInRange, Bool.and_eq_true, decide_eq_true_eq] at hlimit
  refine recallLaw_recalled hi hr (fun rc' hrc' => ?_) rfl h
  rw [← Option.some.inj hrc']
  exact ⟨Nat.succ_pos _, by dsimp only; omega, hwanted⟩

theorem resendRecall_sendListLaw (hi : IndexLaw s) (hr : r ∈ s.grantTable.records) (hrc : r.recallRecord = some rc)
    (h : SendListLaw s) : SendListLaw (s.resendRecall r rc) :=
  sendListLaw_recalled
    (rc := { rc with
      attempts := rc.attempts + 1
      deadline := s.timeBase + recallInterval s.params.recallTimeout (rc.attempts + 1) })
    hi hr rfl rfl (fun m hcalls => by rw [hcalls.eq_message hrc]; rfl) h

/-- A request for DOWNGRADE names an EXCLUSIVE record (R57). -/
theorem requestRecall_recallLaw (hi : IndexLaw s) {slot : Nat} {wanted : Wanted} (cause : RecallCause)
    (hwanted : wanted = .downgrade → ∀ r ∈ s.grantTable.records, r.slot = slot → r.mode = .exclusive)
    (h : RecallLaw s) : RecallLaw (s.requestRecall slot wanted cause) := by
  unfold State.requestRecall
  split
  · exact h
  · rename_i r hat
    have hr := recordAt_mem hat
    split
    · exact issueRecall_recallLaw hi hr cause (fun hw => hwanted hw r hr (recordAt_slot hat)) h
    · rename_i rc hrc
      split
      · exact escalateRecall_recallLaw hi hr hrc cause h
      · exact h

theorem requestRecall_sendListLaw (hi : IndexLaw s) (slot : Nat) (wanted : Wanted) (cause : RecallCause)
    (h : SendListLaw s) : SendListLaw (s.requestRecall slot wanted cause) := by
  unfold State.requestRecall
  split
  · exact h
  · rename_i r hat
    have hr := recordAt_mem hat
    split
    · exact issueRecall_sendListLaw hi hr ‹_› wanted cause h
    · split
      · exact escalateRecall_sendListLaw hi hr cause h
      · exact h

/-! ## A claim is granted (R18, R19) -/

theorem tableGrant_recallLaw (c : Claim) (epoch : Nat) (h : RecallLaw s) : RecallLaw (tableGrant s c epoch) := by
  unfold tableGrant
  split
  · unfold State.createRecord
    split
    · exact h
    · intro q hq
      rcases mem_insertRecord hq with rfl | hold
      · exact recallSound_of_held rfl
      · exact h q hold
  · rename_i slot _
    rw [recallLaw_iff, upgradeRecord_grantTable]
    refine List.forall_mem_map.mpr fun r hr => ?_
    by_cases hslot : r.slot = slot
    · rw [upgradedIn, if_pos hslot]
      exact RecallSound.of_same (h r hr) rfl fun _ => rfl
    · rw [upgradedIn_other _ hslot]
      exact h r hr

/-- The record that an upgrade gives a new token is HELD, so that no message waits under the old one (R47). -/
theorem tableGrant_sendListLaw {c : Claim} (epoch : Nat) (hs : LeasesSound s) (hc : ClaimSound s c) (h : SendListLaw s) :
    SendListLaw (tableGrant s c epoch) := by
  obtain ⟨g, hg⟩ := tableGrant_frame s c epoch
  refine sendListLaw_of_records (by rw [hg]) (fun a m r hr hcalls => ⟨r, ?_, hcalls⟩) h
  unfold tableGrant
  split
  · unfold State.createRecord
    split
    · exact hr
    · exact (insertRecord_perm ..).mem_iff.mpr (List.mem_cons_of_mem _ hr)
  · rename_i slot hkind
    obtain ⟨-, q, hq, hqslot, -, -, -, hheld⟩ := hc.subject slot hkind
    have hother : r.slot ≠ slot := fun hslot => by
      obtain rfl := slot_unique hs.index.2.1 hr hq (hslot.trans hqslot.symm)
      exact hcalls.recalling hheld
    rw [upgradeRecord_grantTable]
    exact List.mem_map.mpr ⟨r, hr, upgradedIn_other _ hother⟩

/-! ## Removal, downgrade and the end of a session (R21, R23, R85, R93) -/

theorem withdrawn_sublist (s : State) (r : GrantRecord) (gone : Bool) (a : AgentId) :
    ((withdrawn s r gone).get a).Sublist (s.sendList a) := by
  unfold withdrawn
  split
  · rw [PerAgent.get_set]
    split
    · rename_i ha
      rw [ha]
      exact List.filter_sublist
    · exact List.Sublist.refl _
  · exact List.Sublist.refl _

/-- Once the message of a record is withdrawn, none waits that the record called for. -/
theorem not_callsFor_withdrawn {a : AgentId} {m : RecallMessage} (hm : m ∈ (withdrawn s r true).get a) :
    ¬CallsFor r a m := by
  rintro ⟨htoken, rfl, -⟩
  rw [withdrawn, if_pos rfl, PerAgent.get_set_self, List.mem_filter] at hm
  exact absurd htoken.symm (by simpa using hm.2)

theorem detachRecord_recallLaw (cause : RemovalCause) (r : GrantRecord) (h : RecallLaw s) :
    RecallLaw (s.detachRecord cause r) := by
  rw [recallLaw_iff, detachRecord_records]
  exact fun q hq => h q (List.mem_of_mem_filter hq)

theorem detachRecord_sendListLaw (cause : RemovalCause) (hi : IndexLaw s) (hr : r ∈ s.grantTable.records)
    (h : SendListLaw s) : SendListLaw (s.detachRecord cause r) := by
  rw [detachRecord_eq]
  refine sendListLaw_of_sublist (withdrawn_sublist s r _) (fun a m hm q hq hcalls => ⟨q, ?_, hcalls⟩) h
  refine List.mem_filter.mpr ⟨hq, decide_eq_true fun hslot => ?_⟩
  obtain rfl := slot_unique hi.2.1 hq hr hslot
  have hgone : q.recallRecord.isSome = true := Option.isSome_iff_ne_none.mpr hcalls.recalling
  rw [State.sendList, hgone] at hm
  exact not_callsFor_withdrawn hm hcalls

/-- A recall that wants DOWNGRADE goes with the downgrade; any other stays (R23). -/
theorem recallSound_downgraded (h : RecallSound r) : RecallSound (downgradedRecord s r) := by
  intro rc hrc
  by_cases hwants : wantsDowngrade r = true
  · simp [downgradedRecord, hwants] at hrc
  · have hstays : r.recallRecord = some rc := by simpa [downgradedRecord, hwants] using hrc
    obtain ⟨hmin, hmax, -⟩ := h rc hstays
    exact ⟨hmin, hmax, fun hdowngrade => absurd (by simp [wantsDowngrade, hstays, hdowngrade]) hwants⟩

theorem downgraded_recallLaw (hr : r ∈ s.grantTable.records) (h : RecallLaw s) :
    RecallLaw (downgraded s r) := by
  refine List.forall_mem_map.mpr fun q hq => ?_
  split
  · exact recallSound_downgraded (h r hr)
  · exact h q hq

theorem downgraded_sendListLaw (hi : IndexLaw s) (hr : r ∈ s.grantTable.records) (h : SendListLaw s) :
    SendListLaw (downgraded s r) := by
  refine sendListLaw_of_sublist (withdrawn_sublist s r _) (fun a m hm q hq hcalls =>
    ⟨_, List.mem_map_of_mem hq, ?_⟩) h
  by_cases hslot : q.slot = r.slot
  · obtain rfl := slot_unique hi.2.1 hq hr hslot
    rw [if_pos rfl]
    have hstays : wantsDowngrade q = false := by
      by_contra hwants
      rw [Bool.not_eq_false] at hwants
      rw [State.sendList, downgraded, hwants] at hm
      exact not_callsFor_withdrawn hm hcalls
    obtain ⟨htoken, hholder, hextent, rc, hrc, hmessage⟩ := hcalls
    exact ⟨htoken, hholder, hextent, rc, by simp [downgradedRecord, hstays, hrc], hmessage⟩
  · rw [if_neg hslot]
    exact hcalls

/-- An agent's records and messages are gone. -/
theorem recallLaw_recordsLeft {a : AgentId} (hrecords : t.grantTable.records = recordsLeft s a) (h : RecallLaw s) :
    RecallLaw t := by
  rw [recallLaw_iff, hrecords]
  exact fun r hr => h r (List.mem_of_mem_filter hr)

theorem sendListLaw_recordsLeft {a : AgentId} (hrecords : t.grantTable.records = recordsLeft s a)
    (hlists : t.sendLists = s.sendLists.set a []) (h : SendListLaw s) : SendListLaw t := by
  have hget : ∀ b, t.sendList b = if b = a then [] else s.sendList b := fun b => by
    rw [State.sendList, hlists, PerAgent.get_set]
    rfl
  refine sendListLaw_of_sublist (fun b => ?_) (fun b m hm r hr hcalls => ⟨r, ?_, hcalls⟩) h
  · rw [hget]
    split
    · exact List.nil_sublist _
    · exact List.Sublist.refl _
  · rw [hget] at hm
    have hother : r.holder ≠ a := fun hholder => by
      rw [if_pos (hcalls.holder.symm.trans hholder)] at hm
      exact List.not_mem_nil hm
    rw [hrecords]
    exact List.mem_filter.mpr ⟨hr, decide_eq_true hother⟩

end

end Sys2Proof.Laws
end

section
/-!
SUPPORT. Every command against the two laws of the Recall Engine: recall records in range (`RecallLaw`), and waiting RECALL
messages that their records call for (`SendListLaw`). In the order of the model's files.
-/

namespace Sys2Proof.Laws

set_option Elab.async false

open Sys2Proof.Machine Sys2Proof.Safety

/-! ## Parts of a happening -/

/-- A part of a happening that keeps the index, leases and claims, and with them the two laws of the Recall Engine. -/
structure KeepsRecalls (s t : State) : Prop where
  index : IndexLaw s → IndexLaw t
  sound : LeasesSound s → LeasesSound t
  recalls : IndexLaw s → RecallLaw s → RecallLaw t
  messages : LeasesSound s → SendListLaw s → SendListLaw t

section
variable {s t u : State}

theorem KeepsRecalls.refl (s : State) : KeepsRecalls s s := ⟨id, id, fun _ => id, fun _ => id⟩

theorem KeepsRecalls.trans (h : KeepsRecalls s t) (k : KeepsRecalls t u) : KeepsRecalls s u where
  index hi := k.index (h.index hi)
  sound hs := k.sound (h.sound hs)
  recalls hi hr := k.recalls (h.index hi) (h.recalls hi hr)
  messages hs hm := k.messages (h.sound hs) (h.messages hs hm)

theorem Moves.indexLaw (h : Moves s t) (hi : IndexLaw s) : IndexLaw t := h.keeps (fun _ _ => Move.indexLaw) hi

theorem KeepsRecalls.of_moves (h : Moves s t) (hrecalls : IndexLaw s → RecallLaw s → RecallLaw t)
    (hmessages : LeasesSound s → SendListLaw s → SendListLaw t) : KeepsRecalls s t :=
  ⟨h.indexLaw, h.sound, hrecalls, hmessages⟩

/-- Neither a record nor a message changes. -/
theorem KeepsRecalls.of_entries (h : Moves s t) (hrecords : t.grantTable.records = s.grantTable.records := by rfl)
    (hlists : t.sendLists = s.sendLists := by rfl) : KeepsRecalls s t :=
  .of_moves h (fun _ => recallLaw_congr hrecords) fun _ => sendListLaw_congr hrecords hlists

/-- No table changes. -/
theorem KeepsRecalls.of_tables (htable : t.grantTable = s.grantTable := by rfl)
    (hentries : t.waitList = s.waitList := by rfl) (hlists : t.sendLists = s.sendLists := by rfl)
    (hvolume : t.params.volume = s.params.volume := by rfl) : KeepsRecalls s t where
  index hi := by unfold IndexLaw; rw [htable]; exact hi
  sound hs := hs.congr htable hentries hvolume
  recalls _ := recallLaw_congr (by rw [htable])
  messages _ := sendListLaw_congr (by rw [htable]) hlists

theorem Quiet.keepsRecalls (h : Quiet s t) : KeepsRecalls s t :=
  .of_tables h.grantTable h.waitList h.sendLists h.volume

end

section
variable {s : State}

/-! ## Recall Engine (Chapter 3) -/

theorem requestRecall_keepsRecalls (slot : Nat) {wanted : Wanted} (cause : RecallCause)
    (hwanted : IndexLaw s → wanted = .downgrade → ∀ r ∈ s.grantTable.records, r.slot = slot → r.mode = .exclusive) :
    KeepsRecalls s (s.requestRecall slot wanted cause) :=
  .of_moves (requestRecall_moves ..) (fun hi => requestRecall_recallLaw hi cause (hwanted hi))
    fun hs => requestRecall_sendListLaw hs.index slot wanted cause

/-- Requests for some records, one after the other: no request changes a mode. -/
theorem foldl_requestRecall_keepsRecalls {wanted : Wanted} (cause : RecallCause) : ∀ (l : List GrantRecord) {s : State},
    IndexLaw s →
    (∀ x ∈ l, wanted = .downgrade → ∀ r ∈ s.grantTable.records, r.slot = x.slot → r.mode = .exclusive) →
    KeepsRecalls s (l.foldl (fun t r => t.requestRecall r.slot wanted cause) s)
  | [], s, _, _ => .refl s
  | x :: l, s, hi, hwanted => by
    obtain ⟨f, htable, hf⟩ := requestRecall_asked (wanted := wanted) hi x.slot cause
    have hfirst := requestRecall_keepsRecalls x.slot cause fun _ => hwanted x List.mem_cons_self
    refine hfirst.trans (foldl_requestRecall_keepsRecalls cause l (hfirst.index hi) fun y hy hdowngrade => ?_)
    rw [htable]
    refine List.forall_mem_map.mpr fun r hr hslot => ?_
    obtain ⟨⟨rc, hrc⟩, -⟩ := hf r hr
    rw [hrc] at hslot ⊢
    exact hwanted y (List.mem_cons_of_mem x hy) hdowngrade r hr hslot

/-- A claim asks for DOWNGRADE only if it is SHARED, and then it conflicts with EXCLUSIVE records alone (R5, R35). -/
theorem recallConflicts_keepsRecalls (s : State) (c : Claim) : KeepsRecalls s (s.recallConflicts c) := by
  have hkeeps : IndexLaw s → KeepsRecalls s (s.recallConflicts c) := fun hi =>
    foldl_requestRecall_keepsRecalls .conflict _ hi fun x hx hdowngrade r hr hslot => by
      obtain ⟨hmem, hhits⟩ := List.mem_filter.mp hx
      obtain rfl := slot_unique hi.2.1 hr hmem hslot
      obtain ⟨-, -, -, hclash⟩ := (hitsRecord_iff c r).mp hhits
      refine hclash.resolve_left fun hexclusive => ?_
      rw [(wantedFor_release c.mode).mpr hexclusive] at hdowngrade
      exact nomatch hdowngrade
  exact .of_moves (recallConflicts_moves ..) (fun hi => (hkeeps hi).recalls hi)
    fun hs => (hkeeps hs.index).messages hs

/-! ## Wait List (Chapter 2) -/

theorem setEntryState_keepsRecalls (s : State) (place : Nat) (state : EntryState) :
    KeepsRecalls s (s.setEntryState place state) := .of_entries (setEntryState_moves ..)

theorem setWaitList_keepsRecalls {l : List WaitEntry} (h : l.Sublist s.waitList) : KeepsRecalls s (s.setWaitList l) :=
  .of_entries (setWaitList_moves s h)

/-- A claim that fits and that nothing stands in the way of is granted. -/
theorem grant_keepsRecalls {ahead l : List WaitEntry} {c : Claim} (tag epoch : Nat) (hl : l.Sublist s.waitList)
    (hfits : LeasesSound s → ClaimFits (s.setWaitList l) c) (h : s.obstacle ahead c = none) :
    KeepsRecalls s ((s.setWaitList l).grant c tag epoch) := by
  obtain ⟨hfree, hroom⟩ := obstacle_none h
  refine .trans (t := tableGrant (s.setWaitList l) c epoch) ?_ (grant_quiet ..).keepsRecalls
  exact
    { index := fun hi => indexLaw_tableGrant (s := s.setWaitList l) hi epoch hroom
      sound := fun hs => (hs.sublist hl).granted epoch (hfits hs) hfree hroom
      recalls := fun _ hr => tableGrant_recallLaw (s := s.setWaitList l) c epoch hr
      messages := fun hs hm => tableGrant_sendListLaw (s := s.setWaitList l) epoch (hs.sublist hl)
        (hfits hs).toClaimSound hm }

theorem appendEntry_keepsRecalls {c : Claim} (tag epoch maxWait : Nat) (o : Obstacle)
    (hfits : LeasesSound s → ClaimFits s c) : KeepsRecalls s (s.appendEntry c tag epoch maxWait o) := by
  have hjoins : ∀ state, KeepsRecalls s (s.setWaitList
      (s.waitList ++ [c.entry tag epoch (s.timeBase + maxWait) state])) := fun state =>
    { index := id, sound := fun hs => hs.entryJoins (hfits hs), recalls := fun _ => id, messages := fun _ => id }
  unfold State.appendEntry
  dsimp only
  split
  · exact (hjoins _).trans (recallConflicts_keepsRecalls ..)
  · exact hjoins _

theorem refuse_keepsRecalls (s : State) (a : AgentId) (tag : Nat) (code : RefusalCode) :
    KeepsRecalls s (s.refuse a tag code) := .of_tables

theorem admission_keepsRecalls {c : Claim} (tag epoch maxWait : Nat) (hfits : LeasesSound s → ClaimFits s c) :
    KeepsRecalls s (s.admission c tag epoch maxWait) := by
  cases hobstacle : s.obstacle s.waitList c with
  | none =>
    rw [admission_granted hobstacle]
    exact grant_keepsRecalls tag epoch (List.Sublist.refl _) hfits hobstacle
  | some o =>
    rw [admission_blocked hobstacle]
    split
    · exact refuse_keepsRecalls ..
    · split
      · exact refuse_keepsRecalls ..
      · split
        · exact refuse_keepsRecalls ..
        · exact appendEntry_keepsRecalls tag epoch maxWait o hfits

theorem visitEntry_keepsRecalls {place : Nat} {e : WaitEntry} (he : s.waitList[place]? = some e) :
    KeepsRecalls s (s.visitEntry place e).1 := by
  unfold State.visitEntry
  split
  · obtain ⟨hsplit, herased⟩ := split_at_place he
    exact grant_keepsRecalls _ _ (List.eraseIdx_sublist ..) (fun hs => herased ▸ hs.claimFits hsplit) ‹_›
  · exact setEntryState_keepsRecalls ..
  · exact .refl s
  · exact setEntryState_keepsRecalls ..
  · exact .refl s
  · exact (setEntryState_keepsRecalls ..).trans (recallConflicts_keepsRecalls ..)
  · exact .refl s
  · exact setEntryState_keepsRecalls ..

theorem walkFrom_keepsRecalls : ∀ (fuel place : Nat) (s : State), KeepsRecalls s (State.walkFrom fuel place s)
  | 0, _, s => .refl s
  | fuel + 1, place, s => by
    unfold State.walkFrom
    split
    · exact .refl s
    · exact (visitEntry_keepsRecalls ‹_›).trans (walkFrom_keepsRecalls fuel ..)

theorem reevaluate_keepsRecalls (s : State) : KeepsRecalls s s.reevaluate := walkFrom_keepsRecalls ..

/-- A part of a happening is followed by a walk. -/
theorem KeepsRecalls.walked {t : State} (h : KeepsRecalls s t) : KeepsRecalls s t.reevaluate :=
  h.trans (reevaluate_keepsRecalls t)

theorem expelEntry_keepsRecalls (s : State) (a : AgentId) (tag : Nat) (code : RefusalCode) :
    KeepsRecalls s (s.expelEntry a tag code) :=
  ((setWaitList_keepsRecalls List.eraseP_sublist).trans (refuse_keepsRecalls ..)).walked

/-! ## Removal, downgrade and the end of a session (R21, R23, R85, R93) -/

/-- After steps 1 to 3 of R21 a RELEASE changes no record and no message. -/
theorem releaseRecord_tables (s : State) (r : GrantRecord) :
    (s.removeRecord .release r).grantTable = (s.detachRecord .release r).grantTable ∧
    (s.removeRecord .release r).sendLists = (s.detachRecord .release r).sendLists := by
  have houtcome := recordOutcome_quiet (s.detachRecord .release r) r.holder (releaseOutcome r)
  have hdrop := dropConvert_quiet ((s.detachRecord .release r).recordOutcome r.holder (releaseOutcome r)) r.holder
    r.slot .grantLost
  exact ⟨hdrop.grantTable.trans houtcome.grantTable, hdrop.sendLists.trans houtcome.sendLists⟩

theorem releaseRecord_keepsRecalls {r : GrantRecord} (hr : r ∈ s.grantTable.records) :
    KeepsRecalls s (s.removeRecord .release r) := by
  obtain ⟨htable, hlists⟩ := releaseRecord_tables s r
  have hrecords := congrArg GrantTable.records htable
  exact .of_moves (releaseRecord_moves hr) (fun _ h => recallLaw_congr hrecords (detachRecord_recallLaw .release r h))
    fun hs h => sendListLaw_congr hrecords hlists (detachRecord_sendListLaw .release hs.index hr h)

/-- A downgrade is `downgraded` and a churn outcome at most. -/
theorem downgradeRecord_quiet {r : GrantRecord} (hi : IndexLaw s) (hr : r ∈ s.grantTable.records) :
    Quiet (downgraded s r) (s.downgradeRecord r) := by
  rw [downgradeRecord_eq s r fun q hq => slot_unique hi.2.1 hq hr]
  split
  · exact recordOutcome_quiet ..
  · exact .refl _

theorem downgradeRecord_keepsRecalls {r : GrantRecord} (hr : r ∈ s.grantTable.records) :
    KeepsRecalls s (s.downgradeRecord r) :=
  .of_moves (downgradeRecord_moves s r)
    (fun hi h => (downgradeRecord_quiet hi hr).recallLaw (downgraded_recallLaw hr h))
    fun hs h => (downgradeRecord_quiet hs.index hr).sendListLaw (downgraded_sendListLaw hs.index hr h)

theorem endSession_keepsRecalls (s : State) (a : AgentId) : KeepsRecalls s (s.endSession a) :=
  .of_moves (endSession_moves s a).1
    (fun hi h => by
      rw [endSession_eq s a hi.2.1]
      exact recallLaw_recordsLeft (a := a) rfl h)
    fun hs h => by
      rw [endSession_eq s a hs.index.2.1]
      exact sendListLaw_recordsLeft rfl rfl h

theorem fence_keepsRecalls (s : State) (a : AgentId) (cause : FenceCause) : KeepsRecalls s (s.fence a cause) :=
  .walked <| .of_moves (fenceSteps_moves s a cause).1
    (fun hi h => by
      rw [fenceSteps_eq s a cause hi.2.1]
      exact recallLaw_recordsLeft (a := a) rfl h)
    fun hs h => by
      rw [fenceSteps_eq s a cause hs.index.2.1]
      exact sendListLaw_recordsLeft rfl rfl h

/-! ## Answerable frames -/

section
variable (a : AgentId)

theorem onAnswerable_keepsRecalls {act : State → Frame AnswerableKind → State} (h : ∀ t f, KeepsRecalls t (act t f))
    (s : State) (k : AnswerableKind) : KeepsRecalls s (s.onAnswerable a k act) := by
  rcases onAnswerable_cases s a k act with ⟨-, hidle⟩ | ⟨f, rest, -, htaken⟩
  · rw [hidle]
    exact .refl s
  · rw [htaken]
    exact (afterTakingAnswerable_quiet ..).keepsRecalls.trans (h ..)

theorem startSession_keepsRecalls (s : State) (tag window : Nat) : KeepsRecalls s (s.startSession a tag window) :=
  .of_tables

theorem handleJoin_keepsRecalls (s : State) (f : Frame AnswerableKind) : KeepsRecalls s (State.handleJoin a s f) := by
  unfold State.handleJoin State.acceptJoin
  split
  · exact refuse_keepsRecalls ..
  · split
    · exact ((endSession_keepsRecalls s a).trans (startSession_keepsRecalls ..)).walked
    · exact startSession_keepsRecalls ..

theorem handleAcquire_keepsRecalls (s : State) (f : Frame AnswerableKind) :
    KeepsRecalls s (State.handleAcquire a s f) := by
  unfold State.handleAcquire
  split
  · exact refuse_keepsRecalls ..
  · split
    · exact refuse_keepsRecalls ..
    · split
      · exact refuse_keepsRecalls ..
      · exact admission_keepsRecalls _ _ _ fun _ => acquire_fits ‹_›

theorem convertUp_keepsRecalls {r : GrantRecord} (tag epoch maxWait : Nat) (hr : r ∈ s.grantTable.records)
    (hholder : r.holder = a) (hshared : r.mode = .shared)
    (hnone : ∀ e ∈ s.waitList, e.agent = a → e.kind ≠ .convert r.slot) :
    KeepsRecalls s (s.convertUp a tag epoch maxWait r) := by
  subst hholder
  unfold State.convertUp
  split
  · exact refuse_keepsRecalls ..
  · rename_i hheld
    exact admission_keepsRecalls _ _ _ fun hs => convert_fits hs hr hshared (by simpa using hheld) hnone

theorem convertSubject_keepsRecalls (s : State) (tag epoch : Nat) (q : ConvertFields) :
    KeepsRecalls s (s.convertSubject a tag epoch q) := by
  unfold State.convertSubject
  split
  · exact refuse_keepsRecalls ..
  · rename_i r hlookup
    obtain ⟨hr, -, hholder, -⟩ := lookup_some hlookup
    split
    · exact refuse_keepsRecalls ..
    · rename_i hmode
      split
      · exact refuse_keepsRecalls ..
      · rename_i hnone
        cases hq : q.mode with
        | shared => exact (downgradeRecord_keepsRecalls hr).walked.trans (placeReply_quiet ..).keepsRecalls
        | exclusive =>
          have hshared : r.mode = .shared := by
            cases hrm : r.mode with
            | shared => rfl
            | exclusive => exact absurd (hq.trans hrm.symm) hmode
          exact convertUp_keepsRecalls a tag epoch _ hr hholder hshared ((converts_any ..).mp (by simpa using hnone))

theorem handleConvert_keepsRecalls (s : State) (f : Frame AnswerableKind) :
    KeepsRecalls s (State.handleConvert a s f) := by
  unfold State.handleConvert
  split
  · exact refuse_keepsRecalls ..
  · split
    · exact refuse_keepsRecalls ..
    · split
      · exact convertSubject_keepsRecalls ..
      · exact refuse_keepsRecalls ..

theorem handleQuery_keepsRecalls (s : State) (f : Frame AnswerableKind) : KeepsRecalls s (State.handleQuery a s f) := by
  unfold State.handleQuery
  split
  · exact refuse_keepsRecalls ..
  · split
    · exact refuse_keepsRecalls ..
    · split
      · exact refuse_keepsRecalls ..
      · split
        · exact refuse_keepsRecalls ..
        · exact (placeReply_quiet ..).keepsRecalls

theorem leaveSession_keepsRecalls (s : State) (tag : Nat) : KeepsRecalls s (s.leaveSession a tag) :=
  ((endSession_keepsRecalls s a).trans .of_tables).walked

theorem handleLeave_keepsRecalls (s : State) (f : Frame AnswerableKind) : KeepsRecalls s (State.handleLeave a s f) := by
  unfold State.handleLeave
  split
  · exact refuse_keepsRecalls ..
  · split
    · exact refuse_keepsRecalls ..
    · exact leaveSession_keepsRecalls ..

/-! ## Closing frames -/

theorem closingChecks_keepsRecalls {act : State → Frame ClosingKind → State} (h : ∀ t f, KeepsRecalls t (act t f))
    (s : State) (f : Frame ClosingKind) : KeepsRecalls s (State.closingChecks a act s f) := by
  unfold State.closingChecks
  split
  · exact (modCounters_quiet ..).keepsRecalls
  · split
    · exact (modCounters_quiet ..).keepsRecalls
    · exact (modCounters_quiet ..).keepsRecalls
    · split
      · exact (protocolError_quiet ..).keepsRecalls
      · split
        · exact (protocolError_quiet ..).keepsRecalls
        · exact h s f

theorem onClosing_keepsRecalls {act : State → Frame ClosingKind → State} (h : ∀ t f, KeepsRecalls t (act t f))
    (s : State) (k : ClosingKind) : KeepsRecalls s (s.onClosing a k act) := by
  rcases onClosing_cases s a k act with ⟨-, hidle⟩ | ⟨f, rest, -, htaken⟩
  · rw [hidle]
    exact .refl s
  · rw [htaken]
    exact (afterTakingClosing_quiet ..).keepsRecalls.trans (closingChecks_keepsRecalls a h ..)

theorem handleRelease_keepsRecalls (s : State) (f : Frame ClosingKind) :
    KeepsRecalls s (State.handleRelease a s f) := by
  unfold State.handleRelease
  split
  · exact (protocolError_quiet ..).keepsRecalls
  · rename_i hlookup
    obtain ⟨hr, -⟩ := lookup_some hlookup
    exact (releaseRecord_keepsRecalls hr).walked

theorem handleDowngrade_keepsRecalls (s : State) (f : Frame ClosingKind) :
    KeepsRecalls s (State.handleDowngrade a s f) := by
  unfold State.handleDowngrade
  split
  · exact (protocolError_quiet ..).keepsRecalls
  · rename_i hlookup
    obtain ⟨hr, -⟩ := lookup_some hlookup
    split
    · exact (modCounters_quiet ..).keepsRecalls
    · exact (downgradeRecord_keepsRecalls hr).walked

theorem handleCancel_keepsRecalls (s : State) (f : Frame ClosingKind) : KeepsRecalls s (State.handleCancel a s f) := by
  unfold State.handleCancel
  split
  · exact (modCounters_quiet ..).keepsRecalls
  · exact expelEntry_keepsRecalls ..

/-! ## Deadlines that pass (R48, R89) -/

theorem waitDeadlinePasses_keepsRecalls (s : State) (tag : Nat) : KeepsRecalls s (s.waitDeadlinePasses a tag) := by
  unfold State.waitDeadlinePasses
  split
  · exact .refl s
  · split
    · exact expelEntry_keepsRecalls ..
    · exact .refl s

theorem leaseDeadlinePasses_keepsRecalls (s : State) : KeepsRecalls s (s.leaseDeadlinePasses a) := by
  unfold State.leaseDeadlinePasses
  split
  · split
    · exact fence_keepsRecalls ..
    · exact .refl s
  · exact .refl s

end

/-! ## Sweep steps (R106) -/

theorem setPending_keepsRecalls (s : State) (f : GrantRecord → Bool) :
    KeepsRecalls s (s.setRecords (s.grantTable.records.map fun r => { r with sweepPending := f r })) :=
  .of_moves (.single (.eased fun _ => {})) (fun _ => recallLaw_pending f) fun _ => sendListLaw_pending f

/-- A sweep asks for DOWNGRADE of EXCLUSIVE records alone (R108). -/
theorem sweepRecall_keepsRecalls (slot : Nat) {wanted : Wanted}
    (hwanted : IndexLaw s → wanted = .downgrade → ∀ r ∈ s.grantTable.records, r.slot = slot → r.mode = .exclusive) :
    KeepsRecalls s (s.sweepRecall slot wanted) := by
  unfold State.sweepRecall
  rw [setPending_eq]
  exact ((requestRecall_keepsRecalls slot .sweep hwanted).trans (setPending_keepsRecalls ..)).trans
    (modSweep_quiet ..).keepsRecalls

theorem sweepAction_keepsRecalls (kind : SweepKind) {r : GrantRecord} (hr : r ∈ s.grantTable.records) :
    KeepsRecalls s (s.sweepAction kind r) := by
  unfold State.sweepAction
  split
  · exact sweepRecall_keepsRecalls _ fun _ => nofun
  · rename_i hmode
    exact sweepRecall_keepsRecalls _ fun hi _ q hq hslot => by rwa [slot_unique hi.2.1 hq hr hslot]
  · exact .refl s
  · exact .refl s

theorem sweepReach_keepsRecalls (w : Sweep) {r : GrantRecord} (hr : r ∈ s.grantTable.records) :
    KeepsRecalls s (s.sweepReach w r) := by
  unfold State.sweepReach
  dsimp only
  split
  · exact KeepsRecalls.trans .of_tables (sweepAction_keepsRecalls (s := (s.modSweep _).modSweep _) _ hr)
  · exact .of_tables

theorem finishScan_keepsRecalls (s : State) : KeepsRecalls s s.finishScan :=
  ((modSweep_quiet ..).trans (completeIfDrained_quiet _)).keepsRecalls

theorem walkAfterStep_keepsRecalls {t : State} (h : KeepsRecalls s t) : KeepsRecalls s (s.walkAfterStep t) := by
  unfold State.walkAfterStep
  split
  · exact h.walked
  · exact h

theorem sweepOnce_keepsRecalls (s : State) : KeepsRecalls s s.sweepOnce := by
  unfold State.sweepOnce
  split
  · exact .refl s
  · split
    · exact .refl s
    · split
      · exact walkAfterStep_keepsRecalls (finishScan_keepsRecalls s)
      · rename_i hahead
        split
        · exact walkAfterStep_keepsRecalls (sweepReach_keepsRecalls _ (List.mem_of_find?_eq_some hahead))
        · exact walkAfterStep_keepsRecalls (finishScan_keepsRecalls s)

/-! ## Sends (R148) -/

/-- The RECALL at the head of a send list is sent (R63). -/
theorem sendRecall_keepsRecalls (s : State) (a : AgentId) : KeepsRecalls s (s.modSendList a List.tail) := by
  have hget : ∀ b, ((s.modSendList a List.tail).sendList b).Sublist (s.sendList b) := fun b => by
    rw [State.modSendList_sendList]
    split
    · exact List.tail_sublist _
    · exact List.Sublist.refl _
  exact .of_moves (modSendList_moves s a rfl) (fun _ => id) fun _ =>
    sendListLaw_of_sublist hget fun _ _ _ r hr hcalls => ⟨r, hr, hcalls⟩

theorem leaveLane_keepsRecalls (s : State) (a : AgentId) (choice : AgentSend) :
    KeepsRecalls s (s.leaveLane a choice) := by
  cases choice with
  | control frame => exact .of_tables
  | reply r =>
    rw [leaveLane_reply]
    exact .of_tables
  | recallMessage m => exact (modLink_quiet ..).keepsRecalls.trans (sendRecall_keepsRecalls ..)
  | credit => exact .refl s

theorem agentLinkSends_keepsRecalls (s : State) (a : AgentId) : KeepsRecalls s (s.agentLinkSends a) := by
  unfold State.agentLinkSends
  split
  · split
    · exact .refl s
    · exact (leaveLane_keepsRecalls ..).trans (modLink_quiet ..).keepsRecalls
  · exact .refl s

/-! ## Management commands (Chapter 8) -/

/-- What a command comes to: a refusal, or a state and a result of which `P` holds. -/
def AnswerHolds (P : State → Prop) : Answer → Prop
  | .refuse _ => True
  | .done t _ => P t

/-- A test that refuses the command when it holds. -/
theorem answerHolds_unless {P : State → Prop} {p : Prop} [Decidable p] {x : Answer} {status : Status}
    (h : ¬p → AnswerHolds P x) : AnswerHolds P (if p then .refuse status else x) := by
  split
  · trivial
  · exact h ‹¬p›

/-- A test that refuses the command when it fails. -/
theorem answerHolds_if {P : State → Prop} {p : Prop} [Decidable p] {x : Answer} {status : Status}
    (h : p → AnswerHolds P x) : AnswerHolds P (if p then x else .refuse status) := by
  split
  · exact h ‹p›
  · trivial

/-- What a management command comes to keeps the laws of the Recall Engine. -/
abbrev AnswerKeepsRecalls (s : State) : Answer → Prop := AnswerHolds (KeepsRecalls s)

theorem answerKeepsRecalls_done {t : State} {result : MgmtResult} (h : KeepsRecalls s t) :
    AnswerKeepsRecalls s (.done t result) := h

theorem onCommand_keepsRecalls {act : State → List Byte → Answer} (h : ∀ t body, AnswerKeepsRecalls t (act t body))
    (s : State) (k : CommandKind) : KeepsRecalls s (s.onCommand k act) := by
  rcases onCommand_cases s k act with ⟨-, hidle⟩ | ⟨f, rest, -, htaken⟩
  · rw [hidle]
    exact .refl s
  · rw [htaken]
    have htaking := (afterTakingCommand_quiet s).keepsRecalls
    have hact := h s.afterTakingCommand f.body
    cases hanswer : act s.afterTakingCommand f.body with
    | refuse status => exact htaking.trans (placeMgmtReply_quiet ..).keepsRecalls
    | done t result =>
      rw [hanswer] at hact
      have hdone : KeepsRecalls s.afterTakingCommand t := hact
      exact (htaking.trans hdone).trans (placeMgmtReply_quiet ..).keepsRecalls

theorem onAgent_keepsRecalls {act : State → AgentId → Answer} (h : ∀ t a, AnswerKeepsRecalls t (act t a)) (s : State)
    (body : List Byte) : AnswerKeepsRecalls s (State.onAgent act s body) := by
  unfold State.onAgent
  split
  · trivial
  · split
    · trivial
    · exact h ..

theorem setGroupParam_keepsRecalls (s : State) (identifier selector value : Nat) :
    AnswerKeepsRecalls s (s.setGroupParam identifier selector value) := by
  have hclear : ∀ g f, KeepsRecalls s ((s.setGroup g f).clearGroupWindows g) := fun g f =>
    ((setChurn_quiet ..).trans (clearGroupWindows_quiet (s.setGroup g f) g)).keepsRecalls
  unfold State.setGroupParam
  split
  · trivial
  · dsimp only
    split
    · exact answerHolds_if fun _ => hclear ..
    · exact answerHolds_if fun _ => hclear ..
    · exact answerHolds_if fun _ => hclear ..
    · exact answerHolds_if fun _ => (setChurn_quiet ..).keepsRecalls

theorem setAgentGroup_keepsRecalls (s : State) (selector value : Nat) :
    AnswerKeepsRecalls s (s.setAgentGroup selector value) := by
  unfold State.setAgentGroup
  split
  · trivial
  · split
    · trivial
    · exact answerKeepsRecalls_done .of_tables

/-- No parameter is a table's, and V moves only to one that every extent lies in (R163). -/
theorem setOneParam_keepsRecalls (s : State) (q : SetParamFields) : AnswerKeepsRecalls s (s.setOneParam q) := by
  unfold State.setOneParam
  split
  · exact answerHolds_unless fun _ => answerHolds_unless fun huse =>
      answerKeepsRecalls_done (.of_entries (.single (.volume rfl (by simpa using huse))))
  · exact answerHolds_if fun _ => answerKeepsRecalls_done .of_tables
  · exact answerHolds_if fun _ => answerKeepsRecalls_done .of_tables
  · exact answerHolds_if fun _ => answerKeepsRecalls_done .of_tables
  · exact setGroupParam_keepsRecalls ..
  · exact setGroupParam_keepsRecalls ..
  · exact setGroupParam_keepsRecalls ..
  · exact setGroupParam_keepsRecalls ..
  · exact setAgentGroup_keepsRecalls ..
  · trivial

theorem runSetParam_keepsRecalls (s : State) (body : List Byte) : AnswerKeepsRecalls s (s.runSetParam body) := by
  unfold State.runSetParam
  refine answerHolds_unless fun _ => ?_
  split
  · trivial
  · exact setOneParam_keepsRecalls ..

theorem runAdmit_keepsRecalls (s : State) (a : AgentId) : AnswerKeepsRecalls s (s.runAdmit a) :=
  answerKeepsRecalls_done .of_tables

theorem runEvict_keepsRecalls (s : State) (a : AgentId) : AnswerKeepsRecalls s (s.runEvict a) := by
  have hcleared : KeepsRecalls s (s.modSession a fun x => { x with admitFlag := false }) := .of_tables
  unfold State.runEvict
  dsimp only
  split
  · exact answerKeepsRecalls_done (hcleared.trans (fence_keepsRecalls ..))
  · exact answerKeepsRecalls_done hcleared

theorem runAckChurn_keepsRecalls (s : State) (a : AgentId) : AnswerKeepsRecalls s (s.runAckChurn a) :=
  answerKeepsRecalls_done .of_tables

theorem runPause_keepsRecalls (s : State) (body : List Byte) : AnswerKeepsRecalls s (s.runPause body) :=
  answerHolds_unless fun _ => answerHolds_unless fun _ => answerKeepsRecalls_done .of_tables

theorem runResume_keepsRecalls (s : State) (body : List Byte) : AnswerKeepsRecalls s (s.runResume body) :=
  answerHolds_unless fun _ => answerHolds_unless fun _ => answerKeepsRecalls_done .of_tables

theorem runSweepStart_keepsRecalls (s : State) (body : List Byte) : AnswerKeepsRecalls s (s.runSweepStart body) := by
  unfold State.runSweepStart
  refine answerHolds_unless fun _ => ?_
  split
  · trivial
  · refine answerHolds_unless fun _ => ?_
    split
    · trivial
    · exact answerHolds_unless fun _ => answerHolds_unless fun _ => answerKeepsRecalls_done .of_tables

theorem runSweepAbort_keepsRecalls (s : State) (body : List Byte) : AnswerKeepsRecalls s (s.runSweepAbort body) := by
  have haborted : KeepsRecalls s (s.clearPending.endSweep .aborted) :=
    (setPending_keepsRecalls s fun _ => false).trans (endSweep_quiet ..).keepsRecalls
  exact answerHolds_unless fun _ => answerHolds_unless fun _ => answerKeepsRecalls_done haborted.walked

theorem runQueryExtent_keepsRecalls (s : State) (body : List Byte) : AnswerKeepsRecalls s (s.runQueryExtent body) := by
  unfold State.runQueryExtent
  refine answerHolds_unless fun _ => ?_
  split
  · trivial
  · exact answerHolds_unless fun _ => answerKeepsRecalls_done (.refl s)

theorem runQueryAgent_keepsRecalls (s : State) (a : AgentId) : AnswerKeepsRecalls s (s.runQueryAgent a) :=
  answerKeepsRecalls_done (.refl s)

theorem runReadCounters_keepsRecalls (s : State) (body : List Byte) :
    AnswerKeepsRecalls s (s.runReadCounters body) := by
  unfold State.runReadCounters
  split
  · trivial
  · refine answerHolds_unless fun _ => answerHolds_unless fun _ => ?_
    split
    · exact answerKeepsRecalls_done (readAgentCounters_quiet ..).keepsRecalls
    · exact answerKeepsRecalls_done (readMgmtCounters_quiet ..).keepsRecalls

theorem runReportResume_keepsRecalls (s : State) (body : List Byte) :
    AnswerKeepsRecalls s (s.runReportResume body) := by
  unfold State.runReportResume
  refine answerHolds_unless fun _ => ?_
  split
  · exact answerKeepsRecalls_done .of_tables
  · exact answerKeepsRecalls_done (.refl s)

/-! ### RESET_DIRECTORY (R171) -/

theorem resetSession_keepsTables (s : State) (a : AgentId) :
    (s.resetSession a).grantTable = s.grantTable ∧ (s.resetSession a).sendLists = s.sendLists := by
  unfold State.resetSession
  split
  · exact ⟨rfl, rfl⟩
  · exact ⟨rfl, rfl⟩

theorem resetSessions_keepTables : ∀ (l : List AgentId) (s : State),
    (l.foldl State.resetSession s).grantTable = s.grantTable ∧ (l.foldl State.resetSession s).sendLists = s.sendLists
  | [], _ => ⟨rfl, rfl⟩
  | a :: l, s => by
    obtain ⟨htable, hlists⟩ := resetSessions_keepTables l (s.resetSession a)
    obtain ⟨htable', hlists'⟩ := resetSession_keepsTables s a
    exact ⟨htable.trans htable', hlists.trans hlists'⟩

/-- The reset leaves no record. -/
theorem resetTables_records (s : State) : s.resetTables.grantTable.records = [] := by
  unfold State.resetTables
  extract_lets s1 s2 s3 s4 s5
  have htable : s5.grantTable = s3.grantTable :=
    (resetSessions_keepTables allAgents s4).1.trans (endSweep_quiet s3 .aborted).grantTable
  clear_value s5
  exact congrArg GrantTable.records htable

/-- The reset leaves no message. -/
theorem resetTables_sendLists (s : State) : s.resetTables.sendLists = .const [] := by
  unfold State.resetTables
  extract_lets s1 s2 s3 s4 s5
  have hlists : s5.sendLists = s3.sendLists :=
    (resetSessions_keepTables allAgents s4).2.trans (endSweep_quiet s3 .aborted).sendLists
  clear_value s5
  exact hlists

theorem resetTables_keepsRecalls (s : State) : KeepsRecalls s s.resetTables :=
  .of_moves (resetTables_moves s)
    (fun _ _ => recallLaw_congr (s := .reset) (resetTables_records s) reset_recallLaw)
    fun _ _ => sendListLaw_congr (s := .reset) (resetTables_records s) (resetTables_sendLists s) reset_sendListLaw

theorem runResetDirectory_keepsRecalls (s : State) (body : List Byte) :
    AnswerKeepsRecalls s (s.runResetDirectory body) :=
  answerHolds_unless fun _ => answerHolds_unless fun _ => answerKeepsRecalls_done (resetTables_keepsRecalls s)

end

/-! ## Every command -/

/-- `t` is `s` with a recall resent, as the deadline of one below the attempt limit asks (R66, R67). -/
def Resends (s t : State) : Prop :=
  ∃ r ∈ s.grantTable.records, ∃ rc, r.recallRecord = some rc ∧ rc.attempts < s.params.attemptLimit ∧
    t = s.resendRecall r rc

theorem recallDeadlinePasses_cases (s : State) (slot : Nat) :
    KeepsRecalls s (s.recallDeadlinePasses slot) ∨ Resends s (s.recallDeadlinePasses slot) := by
  unfold State.recallDeadlinePasses
  split
  · exact .inl (.refl s)
  · rename_i r hat
    split
    · exact .inl (.refl s)
    · rename_i rc hrc
      split
      · split
        · exact .inr ⟨r, recordAt_mem hat, rc, hrc, ‹_›, rfl⟩
        · exact .inl (fence_keepsRecalls ..)
      · exact .inl (.refl s)

/-- Every command but POWER_ON, CONFIGURE and the deadline of a recall keeps the laws of the Recall Engine. -/
theorem exec_keepsRecalls {c : Instr} (hpower : c ≠ .powerOn) (hconfigure : c ≠ .configure)
    (hdeadline : ∀ slot, c ≠ .recallDeadline slot) (s : State) : ∃ t, exec c s = .next t ∧ KeepsRecalls s t := by
  cases c with
  | powerOn => exact absurd rfl hpower
  | configure => exact absurd rfl hconfigure
  | recallDeadline slot => exact absurd rfl (hdeadline slot)
  | millisecondTick => exact ⟨_, rfl, (millisecondTick_quiet s).keepsRecalls⟩
  | signalFound link => exact ⟨_, rfl, (signalFound_quiet s link).keepsRecalls⟩
  | signalLost link => exact ⟨_, rfl, (signalLost_quiet s link).keepsRecalls⟩
  | frameArrival a bytes => exact ⟨_, rfl, (frameArrives_quiet s a bytes).keepsRecalls⟩
  | join a => exact ⟨_, rfl, onAnswerable_keepsRecalls a (handleJoin_keepsRecalls a) s .join⟩
  | acquire a => exact ⟨_, rfl, onAnswerable_keepsRecalls a (handleAcquire_keepsRecalls a) s .acquire⟩
  | convert a => exact ⟨_, rfl, onAnswerable_keepsRecalls a (handleConvert_keepsRecalls a) s .convert⟩
  | query a => exact ⟨_, rfl, onAnswerable_keepsRecalls a (handleQuery_keepsRecalls a) s .query⟩
  | leave a => exact ⟨_, rfl, onAnswerable_keepsRecalls a (handleLeave_keepsRecalls a) s .leave⟩
  | release a => exact ⟨_, rfl, onClosing_keepsRecalls a (handleRelease_keepsRecalls a) s .release⟩
  | downgrade a => exact ⟨_, rfl, onClosing_keepsRecalls a (handleDowngrade_keepsRecalls a) s .downgrade⟩
  | cancel a => exact ⟨_, rfl, onClosing_keepsRecalls a (handleCancel_keepsRecalls a) s .cancel⟩
  | keepalive a => exact ⟨_, rfl, onClosing_keepsRecalls a (fun t _ => .refl t) s .keepalive⟩
  | waitDeadline a tag => exact ⟨_, rfl, waitDeadlinePasses_keepsRecalls a s tag⟩
  | sessionLeaseExpiry a => exact ⟨_, rfl, leaseDeadlinePasses_keepsRecalls a s⟩
  | sweepStep => exact ⟨_, rfl, sweepOnce_keepsRecalls s⟩
  | agentLinkSend a => exact ⟨_, rfl, agentLinkSends_keepsRecalls s a⟩
  | endOfTransmission link =>
    cases link with
    | agent a => exact ⟨_, rfl, .of_tables⟩
    | mgmt => exact ⟨_, rfl, .of_tables⟩
  | mgmtFrameArrival bytes => exact ⟨_, rfl, (mgmtFrameArrives_quiet s bytes).keepsRecalls⟩
  | mgmtLinkSend => exact ⟨_, rfl, (mgmtLinkSends_quiet s).keepsRecalls⟩
  | reportAck => exact ⟨_, rfl, (reportAckTaken_quiet s).keepsRecalls⟩
  | setParam => exact ⟨_, rfl, onCommand_keepsRecalls runSetParam_keepsRecalls s .setParam⟩
  | admitAgent => exact ⟨_, rfl, onCommand_keepsRecalls (onAgent_keepsRecalls runAdmit_keepsRecalls) s .admitAgent⟩
  | evict => exact ⟨_, rfl, onCommand_keepsRecalls (onAgent_keepsRecalls runEvict_keepsRecalls) s .evict⟩
  | pause => exact ⟨_, rfl, onCommand_keepsRecalls runPause_keepsRecalls s .pause⟩
  | resume => exact ⟨_, rfl, onCommand_keepsRecalls runResume_keepsRecalls s .resume⟩
  | sweepStart => exact ⟨_, rfl, onCommand_keepsRecalls runSweepStart_keepsRecalls s .sweepStart⟩
  | sweepAbort => exact ⟨_, rfl, onCommand_keepsRecalls runSweepAbort_keepsRecalls s .sweepAbort⟩
  | queryExtent => exact ⟨_, rfl, onCommand_keepsRecalls runQueryExtent_keepsRecalls s .queryExtent⟩
  | queryAgent => exact ⟨_, rfl, onCommand_keepsRecalls (onAgent_keepsRecalls runQueryAgent_keepsRecalls) s .queryAgent⟩
  | ackChurn => exact ⟨_, rfl, onCommand_keepsRecalls (onAgent_keepsRecalls runAckChurn_keepsRecalls) s .ackChurn⟩
  | reportResume => exact ⟨_, rfl, onCommand_keepsRecalls runReportResume_keepsRecalls s .reportResume⟩
  | readCounters => exact ⟨_, rfl, onCommand_keepsRecalls runReadCounters_keepsRecalls s .readCounters⟩
  | resetDirectory => exact ⟨_, rfl, onCommand_keepsRecalls runResetDirectory_keepsRecalls s .resetDirectory⟩

/-- What a happening does to the recall records and the messages: nothing that breaks a law, a resend, or no change. -/
theorem exec_recallCases {c : Instr} (hpower : c ≠ .powerOn) (s : State) : ∃ t, exec c s = .next t ∧
    (KeepsRecalls s t ∨ Resends s t ∨
      t.grantTable.records = s.grantTable.records ∧ t.sendLists = s.sendLists) := by
  by_cases hconfigure : c = .configure
  · subst hconfigure
    refine ⟨_, rfl, .inr (.inr ?_)⟩
    rcases configure_cases s with hquiet | hconfigures
    · exact ⟨congrArg GrantTable.records hquiet.grantTable, hquiet.sendLists⟩
    · exact ⟨hconfigures.records, hconfigures.sendLists⟩
  · by_cases hdeadline : ∃ slot, c = .recallDeadline slot
    · obtain ⟨slot, rfl⟩ := hdeadline
      exact ⟨_, rfl, (recallDeadlinePasses_cases s slot).imp_right .inl⟩
    · obtain ⟨t, hexec, hkeeps⟩ := exec_keepsRecalls hpower hconfigure (not_exists.mp hdeadline) s
      exact ⟨t, hexec, .inl hkeeps⟩

/-- Every step keeps both laws of the Recall Engine. -/
theorem step_keepsRecalls {s t : State} (h : step s = .next t) :
    (IndexLaw s → ParamLaw s → RecallLaw s → RecallLaw t) ∧ (LeasesSound s → SendListLaw s → SendListLaw t) := by
  unfold step at h
  split at h
  · obtain rfl := Host.Outcome.next.inj h
    exact ⟨fun _ _ => id, fun _ => id⟩
  · rename_i c rest _
    by_cases hpower : c = .powerOn
    · subst hpower
      obtain rfl := Host.Outcome.next.inj h
      exact ⟨fun _ _ _ => reset_recallLaw, fun _ _ => reset_sendListLaw⟩
    · obtain ⟨u, hexec, hcases⟩ := exec_recallCases hpower { s with pending := rest }
      obtain rfl : u = t := Host.Outcome.next.inj (hexec.symm.trans h)
      rcases hcases with hkeeps | ⟨r, hr, rc, hrc, hbelow, rfl⟩ | ⟨hrecords, hlists⟩
      · exact ⟨fun hi _ => hkeeps.recalls hi, fun hs => hkeeps.messages hs.congr⟩
      · exact ⟨fun hi hp => resendRecall_recallLaw (s := { s with pending := rest }) hi hp hr hrc hbelow,
          fun hs => resendRecall_sendListLaw (s := { s with pending := rest }) hs.index hr hrc⟩
      · exact ⟨fun _ _ => recallLaw_congr (s := s) hrecords, fun _ => sendListLaw_congr (s := s) hrecords hlists⟩

end Sys2Proof.Laws
end

section
/-!
The statement about recall records and waiting RECALL messages.
-/

namespace Sys2Proof.Proofs

open Sys2Proof.Machine Sys2Proof.Safety Sys2Proof.Laws

/-- Settles O13: a message joins or changes with its recall and goes with it, DOWNGRADE is asked of EXCLUSIVE records alone,
and a resend adds an attempt only below the limit. -/
theorem recallsAndMessagesStaySound : Obligations.RecallsAndMessagesStaySound := by
  intro s t hstep
  obtain ⟨hrecalls, hmessages⟩ := step_keepsRecalls hstep
  exact ⟨hrecalls, fun ⟨hlease, hextent, _⟩ => hmessages ((leasesSound_iff s).mpr ⟨hlease, hextent⟩)⟩

end Sys2Proof.Proofs
end

section
/-!
SUPPORT. What JOIN and LEAVE come to once their frame is taken: the tests of R81, the start of a session (R82), and the
end of one (R83, R85).
-/

namespace Sys2Proof.Laws

open Sys2Proof.Machine Sys2Proof.Safety

variable {s : State} {a : AgentId} {rest : List (Frame AnswerableKind)} {f : Frame AnswerableKind}

/-- `s` once an answerable frame that renews nothing has been taken and still holds its slot. -/
abbrev taken (s : State) (a : AgentId) (rest : List (Frame AnswerableKind)) : State :=
  withLink s a (heldLink (s.link a) rest)

/-- A frame taken in session renews the lease besides (R87). -/
theorem held_eq (s : State) (a : AgentId) (rest : List (Frame AnswerableKind)) :
    held s a rest = withSession (taken s a rest) a (renewed s a) := rfl

/-! ## The tests of a JOIN (R81) -/

theorem joinRefusal_notReady (hm : s.management.state = .unconfigured) (tag : Nat) (window : Option Nat) :
    s.joinRefusal a tag window = some .notReady := if_pos hm

theorem joinRefusal_fenced (hm : s.management.state ≠ .unconfigured) (hs : (s.session a).state = .fenced) (tag : Nat)
    (window : Option Nat) : s.joinRefusal a tag window = some .fenced := by
  rw [State.joinRefusal, if_neg hm, if_pos hs]

theorem joinRefusal_notAdmitted (hm : s.management.state ≠ .unconfigured) (hs : (s.session a).state = .offline)
    (hflag : (s.session a).admitFlag = false) (tag : Nat) (window : Option Nat) :
    s.joinRefusal a tag window = some .notAdmitted := by
  rw [State.joinRefusal, if_neg hm, if_neg (by simp [hs]), if_pos ⟨hs, hflag⟩]

/-- The first three tests of R81 pass an agent that is ACTIVE, or OFFLINE and admitted. -/
def MayJoin (s : State) (a : AgentId) : Prop :=
  s.management.state ≠ .unconfigured ∧
    (isActive (s.session a).state = true ∨ ((s.session a).state = .offline ∧ (s.session a).admitFlag = true))

theorem mayJoin_held (hm : s.management.state ≠ .unconfigured) : MayJoin (held s a rest) a :=
  ⟨hm, .inl (by rw [held_session]; rfl)⟩

/-- Then the tag and the body decide. -/
theorem joinRefusal_mayJoin (h : MayJoin s a) (tag : Nat) (window : Option Nat) :
    s.joinRefusal a tag window = if Config.maxTag < tag ∨ window = none then some .badRequest else none := by
  obtain ⟨hm, hsession⟩ := h
  have hfenced : (s.session a).state ≠ .fenced := by
    rcases hsession with hactive | ⟨hoffline, -⟩
    · intro hs
      simp [hs, isActive] at hactive
    · simp [hoffline]
  have hadmitted : ¬((s.session a).state = .offline ∧ (s.session a).admitFlag = false) := by
    rintro ⟨hs, hflag⟩
    simp [hs, hflag, isActive] at hsession
  rw [State.joinRefusal, if_neg hm, if_neg hfenced, if_neg hadmitted]

theorem joinRefusal_badRequest (h : MayJoin s a)
    (hbad : 31 < f.tag ∨ f.body.length ≠ 1 ∨ field f.body 0 1 = 0 ∨ 16 < field f.body 0 1) :
    s.joinRefusal a f.tag (joinWindow f.body) = some .badRequest :=
  (joinRefusal_mayJoin h ..).trans (if_pos (joinWindow_none.mp hbad))

theorem handleJoin_refused {code : RefusalCode} (h : s.joinRefusal a f.tag (joinWindow f.body) = some code) :
    State.handleJoin a s f = s.refuse a f.tag code := by
  simp only [State.handleJoin, h]

theorem handleJoin_accepts {w : Nat} (h : MayJoin s a) (hasks : JoinAsks f w) :
    State.handleJoin a s f = s.acceptJoin a f.tag w := by
  have hwindow := joinWindow_some hasks
  obtain ⟨htag, -⟩ := hasks
  have hpasses : s.joinRefusal a f.tag (some w) = none := by
    rw [joinRefusal_mayJoin h, if_neg (by simpa using htag)]
  simp only [State.handleJoin, hwindow, hpasses, Option.getD_some]

/-! ## The taking of a JOIN (R87, R140) -/

/-- A JOIN reaches its rule after the taking. -/
theorem exec_join (hhead : AnswerableHead s a .join f rest) :
    exec (.join a) s = .next (State.handleJoin a (s.afterTakingAnswerable a f.epoch) f) :=
  congrArg Host.Outcome.next (onAnswerable_head _ hhead)

/-- A JOIN that renews nothing reaches it with only the link changed. -/
theorem exec_join_other (hhead : AnswerableHead s a .join f rest)
    (hother : isActive (s.session a).state = true → f.epoch ≠ (s.session a).epoch) :
    exec (.join a) s = .next (State.handleJoin a (taken s a rest) f) := by
  rw [exec_join hhead, afterTakingAnswerable_other hhead hother]
  rfl

/-- A JOIN under the epoch of the ACTIVE session renews its lease first. -/
theorem exec_join_inSession (hhead : AnswerableHead s a .join f rest) (hin : InSession s a f.epoch) :
    exec (.join a) s = .next (State.handleJoin a (held s a rest) f) := by
  rw [exec_join hhead, afterTakingAnswerable_inSession hhead hin]

/-- A JOIN refused after a taking that renewed nothing. -/
theorem exec_join_turnedAway {code : RefusalCode} (hhead : AnswerableHead s a .join f rest)
    (hother : isActive (s.session a).state = true → f.epoch ≠ (s.session a).epoch)
    (hrefusal : s.joinRefusal a f.tag (joinWindow f.body) = some code) :
    exec (.join a) s = .next (turnedAway s a rest { tag := f.tag, reply := .refused code }) := by
  rw [exec_join_other hhead hother, handleJoin_refused (s := taken s a rest) hrefusal]
  exact congrArg Host.Outcome.next (refuse_heldLink ..)

/-! ## The start of a session (R82) -/

/-- Agent `a`'s session record once a session with window `w` has started (R79, R82). -/
def startedSession (s : State) (a : AgentId) (w : Nat) : Session :=
  { s.session a with
    state := .active (s.timeBase + s.params.leasePeriod), epoch := nextEpoch (s.session a).epoch, recallWindow := w }

/-- The JOINED that answers the JOIN (R82). -/
def joinedReply (s : State) (a : AgentId) (tag w : Nat) : TaggedReply :=
  { tag := tag, reply := .joined (nextEpoch (s.session a).epoch) s.params.leasePeriod s.params.recallTimeout
      s.params.attemptLimit s.params.volume w }

theorem startSession_eq (s : State) (a : AgentId) (tag w : Nat) :
    s.startSession a tag w =
      replied (withSession (withLink s a { s.link a with recallCredit := w }) a (startedSession s a w)) a
        (joinedReply s a tag w) := rfl

/-- The lease deadline that stood before is overwritten, so a renewal at the taking leaves no trace. -/
theorem startSession_renewed (s : State) (a : AgentId) (tag w : Nat) :
    (withSession s a (renewed s a)).startSession a tag w = s.startSession a tag w := by
  have hsession : (withSession s a (renewed s a)).session a = renewed s a := PerAgent.get_set_self ..
  rw [startSession_eq, startSession_eq, startedSession, joinedReply, hsession]
  simp only [replied, withSession, withLink, PerAgent.set_set]
  rfl

/-- A session that starts in the happening of taking: the reply fills the slot that the taking reserved. -/
theorem startSession_taken (s : State) (a : AgentId) (rest : List (Frame AnswerableKind)) (tag w : Nat) :
    (taken s a rest).startSession a tag w =
      withSession (withLink s a { answeredLink (s.link a) rest (joinedReply s a tag w) with recallCredit := w }) a
        (startedSession s a w) := by
  have hlink : (taken s a rest).link a = heldLink (s.link a) rest := PerAgent.get_set_self ..
  rw [startSession_eq, hlink]
  simp only [replied, withSession, withLink, State.link, PerAgent.set_set, PerAgent.get_set_self]
  rfl

theorem acceptJoin_offline (hs : (s.session a).state = .offline) (tag w : Nat) :
    s.acceptJoin a tag w = s.startSession a tag w := by
  simp only [State.acceptJoin, hs]

/-! ## The end of a session (R83, R85) -/

/-- A JOIN while ACTIVE ends the old session, starts the new one and walks once. -/
theorem acceptJoin_active (hi : IndexLaw s) (hs : isActive (s.session a).state = true) (tag w : Nat) :
    s.acceptJoin a tag w = ((sessionOver s a).startSession a tag w).reevaluate := by
  obtain ⟨d, hd⟩ := (isActive_iff _).mp hs
  obtain ⟨-, hslots, -⟩ := hi
  simp only [State.acceptJoin, hd, endSession_eq s a hslots]

/-- The end of a session neither reads nor changes the session records. -/
theorem sessionOver_withSession (s : State) (a : AgentId) (x : Session) :
    sessionOver (withSession s a x) a = withSession (sessionOver s a) a x := rfl

/-- Whether the JOIN's epoch renewed the lease does not show in the session that follows. -/
theorem startSession_sessionOver_held (s : State) (a : AgentId) (rest : List (Frame AnswerableKind)) (tag w : Nat) :
    (sessionOver (held s a rest) a).startSession a tag w =
      (sessionOver (taken s a rest) a).startSession a tag w := by
  rw [held_eq, sessionOver_withSession]
  exact startSession_renewed (sessionOver (taken s a rest) a) a tag w

/-- A JOIN accepted while ACTIVE, of whatever epoch. -/
theorem exec_join_replaces {w : Nat} (hi : IndexLaw s) (hhead : AnswerableHead s a .join f rest) (hasks : JoinAsks f w)
    (hm : s.management.state ≠ .unconfigured) (hs : isActive (s.session a).state = true) :
    exec (.join a) s = .next ((sessionOver (held s a rest) a).startSession a f.tag w).reevaluate := by
  by_cases hepoch : f.epoch = (s.session a).epoch
  · rw [exec_join_inSession hhead ⟨hm, hs, hepoch⟩, handleJoin_accepts (mayJoin_held hm) hasks,
      acceptJoin_active (s := held s a rest) hi (by rw [held_session]; rfl)]
  · rw [exec_join_other hhead fun _ => hepoch, handleJoin_accepts (s := taken s a rest) ⟨hm, .inl hs⟩ hasks,
      acceptJoin_active (s := taken s a rest) hi hs, startSession_sessionOver_held]

/-! ## LEAVE (R85) -/

theorem exec_leave_inSession (hhead : AnswerableHead s a .leave f rest) (hin : InSession s a f.epoch) :
    exec (.leave a) s = .next (State.handleLeave a (held s a rest) f) := by
  simp only [exec, execLeave, onAnswerable_head _ hhead, afterTakingAnswerable_inSession hhead hin]

/-- A LEAVE in session, by its tag and body (R32, R180). -/
theorem handleLeave_inSession (hin : InSession s a f.epoch) :
    State.handleLeave a s f =
      if 31 < f.tag ∨ f.body ≠ [] then s.refuse a f.tag .badRequest else s.leaveSession a f.tag := by
  simp only [State.handleLeave, sessionCheck_pass hin, Config.maxTag, ne_eq, List.length_eq_zero_iff]

/-- Of the session record only the state is left changed (R85). -/
theorem leaveSession_held (rest : List (Frame AnswerableKind)) (hi : IndexLaw s) (tag : Nat) :
    (held s a rest).leaveSession a tag =
      (withSession (replied (sessionOver (held s a rest) a) a { tag := tag, reply := .left }) a
        { s.session a with state := .offline }).reevaluate := by
  obtain ⟨-, hslots, -⟩ := hi
  have hsession : (sessionOver (held s a rest) a).sessions.get a = renewed s a := held_session (rest := rest)
  rw [State.leaveSession, endSession_eq (held s a rest) a hslots, placeReply_eq]
  simp only [State.modSession, PerAgent.modify, replied, withLink, withSession, hsession]
  rfl

/-! ## The lease deadline (R89) -/

theorem leaseDeadlinePasses_due (h : (s.session a).state = .active s.timeBase) :
    s.leaseDeadlinePasses a = s.fence a .leaseExpired := by
  simp only [State.leaseDeadlinePasses, h, if_true]

end Sys2Proof.Laws
end

section
/-!
The statements about JOIN, LEAVE and the lease deadline.
-/

namespace Sys2Proof.Proofs

open Sys2Proof.Machine Sys2Proof.Safety Sys2Proof.Laws

/-- Settles O30: each test of R81 in its order, and the one refusal whose taking renews the lease. -/
theorem joinRefused : Obligations.JoinRefused := by
  intro s a f rest hun hhead refusal refusing bad
  refine ⟨fun hm => ?_, fun hm => ⟨fun hs => ?_, fun hs hflag => ?_, fun hs hflag hbad => ?_, fun hs hbad hepoch => ?_,
    fun hs hbad hepoch => ?_⟩⟩
  · obtain ⟨hsessions, -⟩ := hun hm
    exact exec_join_turnedAway hhead (by simp [(hsessions a).1, isActive]) (joinRefusal_notReady hm ..)
  · exact exec_join_turnedAway hhead (by simp [hs, isActive]) (joinRefusal_fenced hm hs ..)
  · exact exec_join_turnedAway hhead (by simp [hs, isActive]) (joinRefusal_notAdmitted hm hs hflag ..)
  · exact exec_join_turnedAway hhead (by simp [hs, isActive]) (joinRefusal_badRequest ⟨hm, .inr ⟨hs, hflag⟩⟩ hbad)
  · exact exec_join_turnedAway hhead (fun _ => hepoch) (joinRefusal_badRequest ⟨hm, .inl hs⟩ hbad)
  · rw [exec_join_inSession hhead ⟨hm, hs, hepoch⟩,
      handleJoin_refused (joinRefusal_badRequest (mayJoin_held hm) hbad), refuse_held]

/-- Settles O31: the taking of an OFFLINE agent's JOIN renews nothing, and the session starts. -/
theorem joinStartsSession : Obligations.JoinStartsSession := by
  intro s a f rest w hhead hasks hm hs hflag epoch p
  rw [exec_join_other hhead (by simp [hs, isActive]),
    handleJoin_accepts (s := taken s a rest) ⟨hm, .inr ⟨hs, hflag⟩⟩ hasks, acceptJoin_offline (s := taken s a rest) hs,
    startSession_taken]
  rfl

/-- Settles O32: the old session's end, the new one's start, and the walk. -/
theorem joinReplacesSession : Obligations.JoinReplacesSession := by
  intro s a f rest w hi hhead hasks hm hs epoch p ended
  have hsession : ended.session a = renewed s a := held_session (rest := rest)
  rw [exec_join_replaces hi hhead hasks hm hs, startSession_eq, startedSession, joinedReply, hsession]
  rfl

/-- Settles O33: refused for its tag or body, or the six steps of R85. -/
theorem leaveEndsSession : Obligations.LeaveEndsSession := by
  intro s a f rest hi hhead hin
  rw [exec_leave_inSession hhead hin, handleLeave_inSession (inSession_held hin)]
  refine ⟨fun hbad => ?_, fun htag hbody => ?_⟩
  · rw [if_pos hbad, refuse_held]
  · rw [if_neg (by simp [htag, hbody]), leaveSession_held rest hi]

/-- Settles O34: the deadline is the count, so the agent is fenced. -/
theorem leaseExpiryFences : Obligations.LeaseExpiryFences := by
  intro s a deadline hi hs hdue
  have hexec : exec (.sessionLeaseExpiry a) s = .next (s.leaseDeadlinePasses a) := rfl
  obtain ⟨-, hslots, -⟩ := hi
  rw [hexec, leaseDeadlinePasses_due (hdue ▸ hs), fence_eq s a .leaseExpired hslots]

end Sys2Proof.Proofs
end

section
/-!
SUPPORT. What a sweep step does, case by case (R106 to R109, R113), and the commands that start and abort a sweep (R103,
R104, R114).
-/

namespace Sys2Proof.Laws

set_option Elab.async false

open Sys2Proof.Machine Sys2Proof.Safety

variable {s : State} {w : Sweep} {c : Cursor} {r : GrantRecord}

/-! ## The Sweep Engine's own changes -/

/-- `s` with another sweep, or none. -/
def withSweep (s : State) (o : Option Sweep) : State := { s with sweep := o }

theorem modSweep_some (h : s.sweep = some w) (f : Sweep → Sweep) : s.modSweep f = withSweep s (some (f w)) := by
  rw [State.modSweep, h, Option.map_some]
  rfl

theorem endSweep_some (h : s.sweep = some w) (status : SweepEnd) :
    s.endSweep status = withSweep (logged s (.sweepDone w.id status w.tallies)) none := by
  rw [State.endSweep, h]
  rfl

theorem pendingEmpty_iff (s : State) :
    s.pendingEmpty = true ↔ ∀ r ∈ s.grantTable.records, r.sweepPending = false := by
  simp [State.pendingEmpty]

theorem pendingEmpty_false_iff (s : State) :
    s.pendingEmpty = false ↔ ∃ r ∈ s.grantTable.records, r.sweepPending = true := by
  simp [State.pendingEmpty]

theorem dropConvert_withSweep (s : State) (o : Option Sweep) (a : AgentId) (slot : Nat) (code : RefusalCode) :
    (withSweep s o).dropConvert a slot code = withSweep (s.dropConvert a slot code) o := by
  unfold State.dropConvert
  rw [show (withSweep s o).waitList = s.waitList from rfl]
  split
  · rfl
  · rfl

theorem issueRecall_withSweep (s : State) (o : Option Sweep) (r : GrantRecord) (wanted : Wanted) (cause : RecallCause) :
    (withSweep s o).issueRecall r wanted cause = withSweep (s.issueRecall r wanted cause) o := by
  unfold State.issueRecall
  dsimp only
  rw [← dropConvert_withSweep]
  rfl

/-- A request to recall neither reads nor changes the sweep. -/
theorem requestRecall_withSweep (s : State) (o : Option Sweep) (slot : Nat) (wanted : Wanted) (cause : RecallCause) :
    (withSweep s o).requestRecall slot wanted cause = withSweep (s.requestRecall slot wanted cause) o := by
  unfold State.requestRecall
  rw [show (withSweep s o).recordAt slot = s.recordAt slot from rfl]
  split
  · rfl
  · split
    · exact issueRecall_withSweep ..
    · split
      · rfl
      · rfl

/-! ## What a sweep's kind asks of a record (R107 to R109) -/

/-- What a sweep that recalls wants (R107, R108). -/
def sweepWants (w : Sweep) : Wanted := if w.kind = .revoke then .release else .downgrade

/-- The sweep recalls the record if it examines it. -/
abbrev SweepRecalls (w : Sweep) (r : GrantRecord) : Prop :=
  w.kind = .revoke ∨ w.kind = .demote ∧ r.mode = .exclusive

/-- The sweep examines the record if it reaches it (R106). -/
abbrev SweepExamines (w : Sweep) (r : GrantRecord) : Prop :=
  r.extent.overlaps w.range = true ∧ w.mask.getLsbD r.holder.val = true

/-- The sweep with its cursor just after the record (R106). -/
def sweepPassed (w : Sweep) (r : GrantRecord) : Sweep := { w with phase := .scanning (.after r.extent.start r.slot) }

/-- The sweep once it has reached the record and counted it as examined (R116). -/
def sweepExamined (w : Sweep) (r : GrantRecord) : Sweep :=
  { sweepPassed w r with tallies := w.tallies.addExamined r.mode }

/-- The sweep once it has recalled the record too (R107, R116). -/
def sweepRecalled (w : Sweep) (r : GrantRecord) : Sweep :=
  { sweepExamined w r with tallies := (w.tallies.addExamined r.mode).addRecalled }

/-- The record in a slot joins the pending set (R110). -/
def joinsPending (slot : Nat) (q : GrantRecord) : GrantRecord :=
  if q.slot = slot then { q with sweepPending := true } else q

/-- `s` once the sweep has recalled the record and waits for it (R107, R108). -/
def recalledBySweep (s : State) (w : Sweep) (r : GrantRecord) : State :=
  let asked := s.requestRecall r.slot (sweepWants w) .sweep
  { asked with
    sweep := some (sweepRecalled w r)
    grantTable := { asked.grantTable with records := asked.grantTable.records.map (joinsPending r.slot) } }

theorem sweepAction_recalls (s : State) (h : SweepRecalls w r) :
    s.sweepAction w.kind r = s.sweepRecall r.slot (sweepWants w) := by
  unfold State.sweepAction sweepWants
  rcases h with hkind | ⟨hkind, hmode⟩
  · rw [hkind]
    rfl
  · rw [hkind, hmode]
    rfl

theorem sweepAction_counts (s : State) (h : ¬SweepRecalls w r) : s.sweepAction w.kind r = s := by
  unfold State.sweepAction
  split
  · rename_i hkind
    exact absurd (.inl hkind) h
  · rename_i hkind hmode
    exact absurd (.inr ⟨hkind, hmode⟩) h
  · rfl
  · rfl

theorem examines_iff (w : Sweep) (r : GrantRecord) :
    (r.extent.overlaps w.range && inMask w.mask r.holder) = true ↔ SweepExamines w r := Bool.and_eq_true_iff

theorem sweepReach_passed (hsweep : s.sweep = some w) (h : ¬SweepExamines w r) :
    s.sweepReach w r = withSweep s (some (sweepPassed w r)) := by
  unfold State.sweepReach
  rw [if_neg (mt (examines_iff w r).mp h), modSweep_some hsweep]
  rfl

theorem sweepReach_examined (hsweep : s.sweep = some w) (h : SweepExamines w r) :
    s.sweepReach w r = (withSweep s (some (sweepExamined w r))).sweepAction w.kind r := by
  unfold State.sweepReach
  rw [if_pos ((examines_iff w r).mpr h), modSweep_some hsweep, modSweep_some rfl]
  rfl

theorem sweepReach_counted (hsweep : s.sweep = some w) (h : SweepExamines w r) (hnone : ¬SweepRecalls w r) :
    s.sweepReach w r = withSweep s (some (sweepExamined w r)) := by
  rw [sweepReach_examined hsweep h, sweepAction_counts _ hnone]

theorem sweepReach_recalls (hsweep : s.sweep = some w) (h : SweepExamines w r) (hrecalls : SweepRecalls w r) :
    s.sweepReach w r = recalledBySweep s w r := by
  rw [sweepReach_examined hsweep h]
  rw [sweepAction_recalls _ hrecalls]
  unfold State.sweepRecall
  rw [requestRecall_withSweep]
  rfl

/-! ## The step (R106) -/

theorem nextAhead_split {behind ahead : List GrantRecord} (hsplit : s.grantTable.records = behind ++ r :: ahead)
    (hbehind : ∀ q ∈ behind, c.isAhead q = false) (hahead : c.isAhead r = true) : s.nextAhead c = some r := by
  have hnone : behind.find? (fun q => c.isAhead q) = none := List.find?_eq_none.mpr fun q hq => by simp [hbehind q hq]
  rw [State.nextAhead, hsplit, List.find?_append, hnone, List.find?_cons_of_pos hahead]
  rfl

theorem sweepOnce_reaches (hsweep : s.sweep = some w) (hphase : w.phase = .scanning c) (hnext : s.nextAhead c = some r)
    (hinside : r.extent.start < w.range.stop) : s.sweepOnce = s.walkAfterStep (s.sweepReach w r) := by
  simp only [State.sweepOnce, hsweep, hphase, hnext, if_pos hinside]

theorem sweepOnce_finishes (hsweep : s.sweep = some w) (hphase : w.phase = .scanning c)
    (hnone : ∀ r, s.nextAhead c = some r → w.range.stop ≤ r.extent.start) :
    s.sweepOnce = s.walkAfterStep s.finishScan := by
  simp only [State.sweepOnce, hsweep, hphase]
  split
  · rfl
  · rename_i r hr
    exact if_neg (Nat.not_lt_of_le (hnone r hr))

/-- A step that changes no more than the sweep, and does not end it, needs no walk. -/
theorem walkAfterStep_stays (s : State) (w : Sweep) : s.walkAfterStep (withSweep s (some w)) = withSweep s (some w) :=
  if_neg (not_or.mpr ⟨Nat.lt_irrefl _, Option.some_ne_none w⟩)

theorem finishScan_drains (hsweep : s.sweep = some w) (h : s.pendingEmpty = false) :
    s.finishScan = withSweep s (some { w with phase := .draining }) := by
  unfold State.finishScan State.completeIfDrained
  rw [modSweep_some hsweep]
  exact if_neg (ne_true_of_eq_false h)

theorem finishScan_completes (hsweep : s.sweep = some w) (h : s.pendingEmpty = true) :
    s.finishScan = withSweep (logged s (.sweepDone w.id .complete w.tallies)) none := by
  unfold State.finishScan State.completeIfDrained
  rw [modSweep_some hsweep]
  exact (if_pos h).trans (endSweep_some (w := { w with phase := .draining }) rfl _)

end Sys2Proof.Laws
end

section
/-!
The statement about sweep steps.
-/

namespace Sys2Proof.Proofs

open Sys2Proof.Machine Sys2Proof.Safety Sys2Proof.Laws

/-- Settles O50: the record reached is passed, counted or recalled, and a scan that reaches none drains or completes. -/
theorem sweepStepWalksIndex : Obligations.SweepStepWalksIndex := by
  intro s w c hsweep hphase
  refine ⟨?_, ?_⟩
  · intro behind r ahead hsplit hbehind hahead hinside moved t counted examined recalls asked joined
    have hexec : exec .sweepStep s = .next (s.walkAfterStep (s.sweepReach w r)) :=
      congrArg Host.Outcome.next (sweepOnce_reaches hsweep hphase (nextAhead_split hsplit hbehind hahead) hinside)
    refine ⟨fun hpassed => ?_, fun hexamined hnone => ?_, fun hexamined hrecalls => ?_⟩
    · rw [hexec, sweepReach_passed hsweep hpassed, walkAfterStep_stays]
      rfl
    · rw [hexec, sweepReach_counted hsweep hexamined hnone, walkAfterStep_stays]
      rfl
    · rw [hexec, sweepReach_recalls hsweep hexamined hrecalls]
      refine congrArg Host.Outcome.next (ite_congr (propext ?_) (fun _ => rfl) fun _ => rfl)
      exact or_iff_left (Option.some_ne_none _)
  · intro hnone
    have hexec : exec .sweepStep s = .next (s.walkAfterStep s.finishScan) := by
      refine congrArg Host.Outcome.next (sweepOnce_finishes hsweep hphase fun r hr => ?_)
      exact hnone r (List.mem_of_find?_eq_some hr) (List.find?_some hr)
    refine ⟨fun hpending => ?_, fun hempty => ?_⟩
    · rw [hexec, finishScan_drains hsweep ((pendingEmpty_false_iff s).mpr hpending), walkAfterStep_stays]
      rfl
    · rw [hexec, finishScan_completes hsweep ((pendingEmpty_iff s).mpr hempty)]
      exact congrArg Host.Outcome.next (if_pos (.inr rfl))

end Sys2Proof.Proofs
end

section
/-!
SUPPORT. SWEEP_START and SWEEP_ABORT: what each answers, against the state once the command is taken (R103, R104, R114).
-/

namespace Sys2Proof.Laws

set_option Elab.async false

open Sys2Proof.Machine Sys2Proof.Safety

section
variable {s : State} {f : Frame CommandKind} {rest : List (Frame CommandKind)}

theorem exec_sweepStart (h : CommandHead s .sweepStart f rest) : exec .sweepStart s =
    .next (s.afterTakingCommand.answer f.tag (s.afterTakingCommand.runSweepStart f.body)) :=
  congrArg Host.Outcome.next (onCommand_head _ h)

theorem exec_sweepAbort (h : CommandHead s .sweepAbort f rest) : exec .sweepAbort s =
    .next (s.afterTakingCommand.answer f.tag (s.afterTakingCommand.runSweepAbort f.body)) :=
  congrArg Host.Outcome.next (onCommand_head _ h)

end

section
variable {s : State} {body : List Byte}

/-- What a SWEEP_START body of the right length asks for (R166). -/
def sweepStartAsks (body : List Byte) : SweepStartFields :=
  { id := field body 0 2, kindByte := field body 2 1, range := extentField body 3,
    mask := BitVec.ofNat 8 (field body 12 1) }

theorem sweepStartFields_some (h : body.length = 13) : sweepStartFields body = some (sweepStartAsks body) := if_pos h

theorem sweepStartFields_none (h : body.length ≠ 13) : sweepStartFields body = none := if_neg h

/-! ## The tests of SWEEP_START, in order (R103) -/

theorem runSweepStart_wrongState (h : s.management.state = .unconfigured) :
    s.runSweepStart body = .refuse .wrongState := if_pos h

section
variable (hm : s.management.state ≠ .unconfigured)
include hm

theorem runSweepStart_badLength (h : body.length ≠ 13) : s.runSweepStart body = .refuse .badParam := by
  simp only [State.runSweepStart, if_neg hm, sweepStartFields_none h]

variable (hlength : body.length = 13)
include hlength

theorem runSweepStart_busy (h : s.sweep ≠ none) : s.runSweepStart body = .refuse .sweepBusy := by
  simp only [State.runSweepStart, if_neg hm, sweepStartFields_some hlength, if_pos (Option.isSome_iff_ne_none.mpr h)]

variable (hidle : s.sweep = none)
include hidle

/-- The tests that are left once no sweep is active. -/
theorem runSweepStart_idle : s.runSweepStart body =
    match SweepKind.ofCode (sweepStartAsks body).kindByte with
    | none => .refuse .badParam
    | some kind =>
      if (sweepStartAsks body).mask = 0 then .refuse .badParam
      else if !(sweepStartAsks body).range.valid s.params.volume then .refuse .badExtent
      else .done (withSweep s (some (startedSweep (sweepStartAsks body) kind))) .empty := by
  simp only [State.runSweepStart, if_neg hm, sweepStartFields_some hlength, hidle]
  rfl

theorem runSweepStart_badParam
    (h : SweepKind.ofCode (sweepStartAsks body).kindByte = none ∨ (sweepStartAsks body).mask = 0) :
    s.runSweepStart body = .refuse .badParam := by
  rw [runSweepStart_idle hm hlength hidle]
  split
  · rfl
  · rename_i hkind
    exact if_pos (h.resolve_left (by simp [hkind]))

theorem runSweepStart_badExtent {kind : SweepKind} (hkind : SweepKind.ofCode (sweepStartAsks body).kindByte = some kind)
    (hmask : (sweepStartAsks body).mask ≠ 0) (h : (sweepStartAsks body).range.valid s.params.volume = false) :
    s.runSweepStart body = .refuse .badExtent := by
  simp only [runSweepStart_idle hm hlength hidle, hkind, if_neg hmask, h, Bool.not_false, if_true]

theorem runSweepStart_starts {kind : SweepKind} (hkind : SweepKind.ofCode (sweepStartAsks body).kindByte = some kind)
    (hmask : (sweepStartAsks body).mask ≠ 0) (h : (sweepStartAsks body).range.valid s.params.volume = true) :
    s.runSweepStart body = .done (withSweep s (some (startedSweep (sweepStartAsks body) kind))) .empty := by
  simp only [runSweepStart_idle hm hlength hidle, hkind, if_neg hmask, h, Bool.not_true, Bool.false_eq_true, if_false]

end

/-! ## The tests of SWEEP_ABORT, in order (R114) -/

theorem runSweepAbort_badLength (h : body ≠ []) : s.runSweepAbort body = .refuse .badParam :=
  if_pos (mt List.length_eq_zero_iff.mp h)

theorem runSweepAbort_idle (h : s.sweep = none) : s.runSweepAbort [] = .refuse .noSweep := if_pos h

theorem runSweepAbort_aborts {w : Sweep} (h : s.sweep = some w) : s.runSweepAbort [] =
    .done (withSweep (logged s.clearPending (.sweepDone w.id .aborted w.tallies)) none).reevaluate .empty := by
  have hsome : s.sweep ≠ none := h ▸ Option.some_ne_none w
  refine (if_neg hsome).trans ?_
  rw [endSweep_some (s := s.clearPending) h]

end

end Sys2Proof.Laws
end

section
/-!
The statement about the commands that start and abort a sweep.
-/

namespace Sys2Proof.Proofs

open Sys2Proof.Machine Sys2Proof.Safety Sys2Proof.Laws

/-- Settles O51: the tests of each command in order; a started sweep examines nothing, and a walk follows an abort. -/
theorem sweepStartsAndAborts : Obligations.SweepStartsAndAborts := by
  intro s f rest refusing
  refine ⟨?_, ?_⟩
  · intro hhead x mask kind
    have hrefused : ∀ status, s.afterTakingCommand.runSweepStart f.body = .refuse status →
        refusing .sweepStart status := fun status hrun =>
      (exec_sweepStart hhead).trans (by rw [hrun, answer_refuse hhead])
    refine ⟨fun hm => hrefused _ (runSweepStart_wrongState hm), fun hm =>
      ⟨fun hlength => hrefused _ (runSweepStart_badLength hm hlength), fun hlength => ⟨?_, ?_, ?_, ?_⟩⟩⟩
    · exact fun hbusy => hrefused _ (runSweepStart_busy hm hlength hbusy)
    · exact fun hidle hbad => hrefused _ (runSweepStart_badParam hm hlength hidle hbad)
    · intro hidle hkind hmask hinvalid
      obtain ⟨k, hk⟩ := Option.ne_none_iff_exists'.mp hkind
      exact hrefused _ (runSweepStart_badExtent hm hlength hidle hk hmask hinvalid)
    · intro hidle k hk hmask hvalid
      have hrun := runSweepStart_starts (s := s.afterTakingCommand) hm hlength hidle hk hmask hvalid
      rw [exec_sweepStart hhead, hrun, answer_done, afterTakingCommand_head hhead]
      rfl
  · intro hhead
    have hrefused : ∀ status, s.afterTakingCommand.runSweepAbort f.body = .refuse status →
        refusing .sweepAbort status := fun status hrun =>
      (exec_sweepAbort hhead).trans (by rw [hrun, answer_refuse hhead])
    refine ⟨fun hbody => hrefused _ (runSweepAbort_badLength hbody), fun hbody => ⟨fun hidle => ?_, ?_⟩⟩
    · exact hrefused _ (hbody ▸ runSweepAbort_idle hidle)
    · intro w hw left aborted
      have hrun := runSweepAbort_aborts (s := s.afterTakingCommand) hw
      rw [exec_sweepAbort hhead, hbody, hrun, answer_done, afterTakingCommand_head hhead]
      rfl

end Sys2Proof.Proofs
end

section
/-!
SUPPORT. The operations that leave the sweep as it is: links, frames that arrive, counters, the Churn Monitor and the
taking of a frame. In the order of the model's files.
-/

namespace Sys2Proof.Laws

-- One lemma at a time: checked at once, so many would start more threads than the memory limit of check.sh allows.
set_option Elab.async false

open Sys2Proof.Machine Sys2Proof.Safety

theorem foldl_sweep {α : Type} {f : State → α → State} (h : ∀ t x, (f t x).sweep = t.sweep) :
    ∀ (l : List α) (s : State), (l.foldl f s).sweep = s.sweep
  | [], _ => rfl
  | x :: l, s => (foldl_sweep h l (f s x)).trans (h s x)

section
variable (s : State) (a : AgentId)

/-! ## Agent links (Chapter 7) -/

theorem renewLease_sweep (epoch : Nat) : (s.renewLease a epoch).sweep = s.sweep := by
  rcases renewLease_cases s a epoch with hsame | ⟨-, -, hrenewed⟩
  · rw [hsame]
  · rw [hrenewed]

theorem signalFound_sweep (link : LinkId) : (s.signalFound link).sweep = s.sweep := by
  unfold State.signalFound
  cases link with
  | agent a =>
    dsimp only
    split <;> rfl
  | mgmt =>
    dsimp only
    split <;> rfl

theorem signalLost_sweep (link : LinkId) : (s.signalLost link).sweep = s.sweep := by
  unfold State.signalLost
  cases link with
  | agent a =>
    dsimp only
    split <;> rfl
  | mgmt =>
    dsimp only
    split <;> rfl

theorem syncArrives_sweep (f : RawFrame) : (s.syncArrives a f).sweep = s.sweep := by
  unfold State.syncArrives State.goodSync
  split
  · rfl
  · dsimp only
    split
    · exact renewLease_sweep ..
    · exact renewLease_sweep ..

theorem answerableArrives_sweep (k : AnswerableKind) (f : RawFrame) : (s.answerableArrives a k f).sweep = s.sweep := by
  unfold State.answerableArrives
  split <;> rfl

theorem closingArrives_sweep (k : ClosingKind) (f : RawFrame) : (s.closingArrives a k f).sweep = s.sweep := by
  unfold State.closingArrives
  split <;> rfl

theorem unknownArrives_sweep (f : RawFrame) : (s.unknownArrives a f).sweep = s.sweep := by
  unfold State.unknownArrives
  split <;> rfl

theorem frameArrives_sweep (bytes : List Byte) : (s.frameArrives a bytes).sweep = s.sweep := by
  unfold State.frameArrives State.arrivesInWaitSync State.arrivesInRun
  split
  · rfl
  · split
    · rfl
    · rfl
    · split
      · exact syncArrives_sweep ..
      · rfl
  · split
    · rfl
    · rfl
    · split
      · exact syncArrives_sweep ..
      · exact answerableArrives_sweep ..
      · exact closingArrives_sweep ..
      · exact unknownArrives_sweep ..

/-- What leaves a lane takes no record and no sweep with it. -/
theorem leaveLane_frame (choice : AgentSend) :
    (s.leaveLane a choice).grantTable = s.grantTable ∧ (s.leaveLane a choice).sweep = s.sweep := by
  cases choice with
  | reply r =>
    rw [leaveLane_reply]
    exact ⟨rfl, rfl⟩
  | _ => exact ⟨rfl, rfl⟩

theorem agentLinkSends_frame :
    (s.agentLinkSends a).grantTable = s.grantTable ∧ (s.agentLinkSends a).sweep = s.sweep := by
  unfold State.agentLinkSends
  split
  · split
    · exact ⟨rfl, rfl⟩
    · exact leaveLane_frame ..
  · exact ⟨rfl, rfl⟩

/-! ## Churn Monitor (Chapter 6) -/

theorem recordOutcome_sweep (o : ChurnOutcome) : (s.recordOutcome a o).sweep = s.sweep := by
  rw [recordOutcome_eq]
  unfold churned
  split <;> rfl

theorem clearGroupWindows_sweep (g : GroupId) : (s.clearGroupWindows g).sweep = s.sweep := by
  unfold State.clearGroupWindows
  refine foldl_sweep (fun t b => ?_) allAgents s
  split <;> rfl

/-! ## The taking of a frame, and the count -/

theorem afterTakingAnswerable_sweep (epoch : Nat) : (s.afterTakingAnswerable a epoch).sweep = s.sweep :=
  renewLease_sweep ..

theorem afterTakingClosing_sweep (epoch : Nat) : (s.afterTakingClosing a epoch).sweep = s.sweep := renewLease_sweep ..

theorem millisecondTick_sweep : (if s.deadlineDue then s else s.timeAdvances).sweep = s.sweep := by
  split <;> rfl

/-! ## LI-M (sections 8.1 and 8.8) -/

theorem mgmtSyncArrives_sweep (f : RawFrame) : (s.mgmtSyncArrives f).sweep = s.sweep := by
  unfold State.mgmtSyncArrives State.mgmtGoodSync
  split
  · rfl
  · dsimp only
    split <;> rfl

theorem commandArrives_sweep (k : CommandKind) (f : RawFrame) : (s.commandArrives k f).sweep = s.sweep := by
  unfold State.commandArrives
  split <;> rfl

theorem mgmtUnknownArrives_sweep (f : RawFrame) : (s.mgmtUnknownArrives f).sweep = s.sweep := by
  unfold State.mgmtUnknownArrives
  split <;> rfl

theorem mgmtFrameArrives_sweep (bytes : List Byte) : (s.mgmtFrameArrives bytes).sweep = s.sweep := by
  unfold State.mgmtFrameArrives State.mgmtArrivesInWaitSync State.mgmtArrivesInRun
  split
  · rfl
  · split
    · rfl
    · rfl
    · split
      · exact mgmtSyncArrives_sweep ..
      · rfl
  · split
    · rfl
    · rfl
    · split
      · exact mgmtSyncArrives_sweep ..
      · exact commandArrives_sweep ..
      · exact mgmtUnknownArrives_sweep ..

theorem reportAckTaken_sweep : s.reportAckTaken.sweep = s.sweep := by
  unfold State.reportAckTaken
  split
  · rfl
  · split
    · split <;> rfl
    · rfl

theorem leaveMgmtLane_sweep (choice : MgmtSend) : (s.leaveMgmtLane choice).sweep = s.sweep := by
  cases choice with
  | reply r =>
    unfold State.leaveMgmtLane
    dsimp only
    split <;> rfl
  | _ => rfl

theorem mgmtLinkSends_sweep : s.mgmtLinkSends.sweep = s.sweep := by
  unfold State.mgmtLinkSends
  split
  · split
    · rfl
    · exact leaveMgmtLane_sweep ..
  · rfl

end

end Sys2Proof.Laws
end

section
/-!
SUPPORT. The law of the pending set (`SweepLaw`) against the operations of the tables: recalls, grants, removals, downgrades
and the sweep's own steps.
-/

namespace Sys2Proof.Laws

set_option Elab.async false

open Sys2Proof.Machine Sys2Proof.Safety

/-! ## The law, record by record -/

/-- The record is under a recall that an active sweep may wait for (R102, R110). -/
def PendingUnder (w : Sweep) (r : GrantRecord) : Prop :=
  w.kind ≠ .census ∧ ∃ rc, r.recallRecord = some rc ∧ (w.kind = .revoke → rc.wanted = .release)

/-- Some record of the list is pending. -/
def SomePending (l : List GrantRecord) : Prop := ∃ r ∈ l, r.sweepPending = true

/-- The pending records of `m` were pending in `l`, and their recalls bring no less (R60). -/
def PendingKept (l m : List GrantRecord) : Prop :=
  ∀ q ∈ m, q.sweepPending = true → ∃ r ∈ l, r.sweepPending = true ∧ ∀ wanted, Recalled wanted r → Recalled wanted q

theorem sweepLaw_iff (s : State) : SweepLaw s ↔
    (∀ r ∈ s.grantTable.records, r.sweepPending = true → ∃ w, s.sweep = some w ∧ PendingUnder w r) ∧
    ∀ w, s.sweep = some w → w.phase = .draining → SomePending s.grantTable.records := by
  simp only [SweepLaw, pendingEmpty_false_iff]
  exact Iff.rfl

/-- A recall that brings no less keeps a record pending (R60). -/
theorem PendingUnder.mono {w : Sweep} {r q : GrantRecord} (h : PendingUnder w r)
    (hkeeps : ∀ wanted, Recalled wanted r → Recalled wanted q) : PendingUnder w q := by
  obtain ⟨hkind, rc, hrc, hwanted⟩ := h
  by_cases hrevoke : w.kind = .revoke
  · obtain ⟨rc', hrc', hrelease⟩ := hkeeps .release ⟨rc, hrc, fun _ => hwanted hrevoke⟩
    exact ⟨hkind, rc', hrc', fun _ => hrelease rfl⟩
  · obtain ⟨rc', hrc', -⟩ := hkeeps .downgrade ⟨rc, hrc, nofun⟩
    exact ⟨hkind, rc', hrc', fun h => absurd h hrevoke⟩

section
variable {s t u : State}

/-- Nothing is pending and no sweep drains. -/
theorem sweepLaw_of_none (hnone : ¬SomePending t.grantTable.records)
    (hphase : ∀ w, t.sweep = some w → w.phase ≠ .draining) : SweepLaw t :=
  (sweepLaw_iff t).mpr ⟨fun r hr hp => absurd ⟨r, hr, hp⟩ hnone, fun w hw hd => absurd hd (hphase w hw)⟩

/-- What the law says of a pending record, of the sweep that is active. -/
theorem pendingUnder_of_sweepLaw {w : Sweep} {r : GrantRecord} (h : SweepLaw s) (hsweep : s.sweep = some w)
    (hr : r ∈ s.grantTable.records) (hp : r.sweepPending = true) : PendingUnder w r := by
  obtain ⟨w', hw', hpending⟩ := ((sweepLaw_iff s).mp h).1 r hr hp
  rwa [Option.some.inj (hsweep.symm.trans hw')]

/-- Where no sweep is active nothing is pending. -/
theorem sweepLaw_idle (h : SweepLaw s) (hidle : s.sweep = none) : ¬SomePending s.grantTable.records := by
  rintro ⟨r, hr, hp⟩
  obtain ⟨w, hw, -⟩ := ((sweepLaw_iff s).mp h).1 r hr hp
  rw [hidle] at hw
  exact nomatch hw

theorem all_not_pending_iff (l : List GrantRecord) : (l.all fun r => !r.sweepPending) = true ↔ ¬SomePending l := by
  simp [SomePending]

/-- `n` records have left the pending set and the sweep has been told: what is still pending was so and stays under its
recall, and if none has left, a sweep in DRAINING still has something to wait for (R110, R113). -/
theorem sweepLaw_resolved (how : Resolution) (n : Nat) (h : SweepLaw s)
    (hsweep : t.sweep = (resolvedSweep s how n t.grantTable.records).1)
    (hleft : ∀ q ∈ t.grantTable.records, q.sweepPending = true →
      ∃ r ∈ s.grantTable.records, r.sweepPending = true ∧ ∀ w, s.sweep = some w →
        PendingUnder w r → PendingUnder w q)
    (hstays : n = 0 → SomePending s.grantTable.records → SomePending t.grantTable.records) : SweepLaw t := by
  cases hs : s.sweep with
  | none =>
    have hidle : t.sweep = none := hsweep.trans (resolvedSweep_none hs ..)
    refine sweepLaw_of_none (fun ⟨q, hq, hp⟩ => ?_) (by simp [hidle])
    obtain ⟨r, hr, hpr, -⟩ := hleft q hq hp
    exact sweepLaw_idle h hs ⟨r, hr, hpr⟩
  | some w =>
    obtain ⟨-, hdraining⟩ := (sweepLaw_iff s).mp h
    simp only [resolvedSweep, hs] at hsweep
    split at hsweep
    · rename_i hended
      obtain ⟨-, -, hnone⟩ := hended
      exact sweepLaw_of_none ((all_not_pending_iff _).mp hnone) (by simp [hsweep])
    · rename_i hgoes
      refine (sweepLaw_iff t).mpr ⟨fun q hq hp => ⟨_, hsweep, ?_⟩, fun v hv hphase => ?_⟩
      · obtain ⟨r, hr, hpr, hkeeps⟩ := hleft q hq hp
        exact hkeeps w hs (pendingUnder_of_sweepLaw h hs hr hpr)
      · rw [hsweep] at hv
        obtain rfl := Option.some.inj hv
        by_contra hnone
        have hzero : n = 0 := Nat.eq_zero_of_not_pos fun hn => 
          hgoes ⟨hn, hphase, (all_not_pending_iff _).mpr hnone⟩
        exact hnone (hstays hzero (hdraining w hs hphase))

/-- The sweep is as it was, what is pending was so and stays under its recall, and something pending stays so. -/
theorem sweepLaw_same (h : SweepLaw s) (hsweep : t.sweep = s.sweep)
    (hleft : PendingKept s.grantTable.records t.grantTable.records)
    (hstays : SomePending s.grantTable.records → SomePending t.grantTable.records) : SweepLaw t := by
  refine sweepLaw_resolved .byRelease 0 h (by rw [hsweep, resolvedSweep_zero]) (fun q hq hp => ?_) fun _ => hstays
  obtain ⟨r, hr, hpr, hkeeps⟩ := hleft q hq hp
  exact ⟨r, hr, hpr, fun w _ hpending => hpending.mono hkeeps⟩

theorem sweepLaw_congr (hrecords : t.grantTable.records = s.grantTable.records) (hsweep : t.sweep = s.sweep)
    (h : SweepLaw s) : SweepLaw t :=
  sweepLaw_same h hsweep (hrecords ▸ fun q hq hp => ⟨q, hq, hp, fun _ => id⟩) (hrecords ▸ id)

/-- A walk, or a part of one, keeps what is pending pending (R42). -/
theorem walkEffect_somePending (h : WalkEffect s t) (hs : SomePending s.grantTable.records) :
    SomePending t.grantTable.records := by
  obtain ⟨r, hr, hp⟩ := hs
  obtain ⟨q, hq, -, -, -, -, hsame⟩ := h.leases r hr
  exact ⟨q, hq, hsame.trans hp⟩

/-! ## Recalls and grants -/

theorem RecallsAsked.pendingKept {wanted : Wanted} {slots : List Nat} (h : RecallsAsked wanted slots s t) :
    PendingKept s.grantTable.records t.grantTable.records := by
  obtain ⟨f, hf, hrecords⟩ := h
  rw [hf]
  refine List.forall_mem_map.mpr fun r hr hp => ⟨r, hr, ?_⟩
  obtain ⟨⟨rc, hrc⟩, hkeeps, -⟩ := hrecords r hr
  rw [hrc] at hp
  exact ⟨hp, hkeeps⟩

theorem upgradedIn_recallRecord (slot token : Nat) (r : GrantRecord) :
    (upgradedIn slot token r).recallRecord = r.recallRecord := by
  unfold upgradedIn
  split <;> rfl

/-- A grant's new record is not pending, and an upgraded one is under the recall it was under (R18, R19). -/
theorem tableGrant_pendingKept (s : State) (c : Claim) (epoch : Nat) :
    PendingKept s.grantTable.records (tableGrant s c epoch).grantTable.records := by
  intro q hq hp
  unfold tableGrant State.createRecord at hq
  split at hq
  · split at hq
    · exact ⟨q, hq, hp, fun _ => id⟩
    · rcases mem_insertRecord hq with rfl | hold
      · exact nomatch hp
      · exact ⟨q, hold, hp, fun _ => id⟩
  · rw [upgradeRecord_grantTable] at hq
    obtain ⟨r, hr, rfl⟩ := List.mem_map.mp hq
    rw [upgradedIn_sweepPending] at hp
    exact ⟨r, hr, hp, fun _ ⟨rc, hrc, hwanted⟩ => ⟨rc, (upgradedIn_recallRecord ..).trans hrc, hwanted⟩⟩

theorem recallConflicts_sweepLaw (hi : IndexLaw s) (c : Claim) (h : SweepLaw s) : SweepLaw (s.recallConflicts c) :=
  have heffect := recallConflicts_walkEffect s c
  sweepLaw_same h heffect.sweep (recallConflicts_asked hi c).pendingKept (walkEffect_somePending heffect)

theorem grant_sweepLaw (c : Claim) (tag epoch : Nat) (h : SweepLaw s) : SweepLaw (s.grant c tag epoch) := by
  have heffect := grant_walkEffect s c tag epoch
  refine sweepLaw_same h heffect.sweep ?_ (walkEffect_somePending heffect)
  rw [(grant_quiet s c tag epoch).grantTable]
  exact tableGrant_pendingKept s c epoch

/-- A resend changes neither what a recall wants nor the pending set (R67). -/
theorem resendRecall_sweepLaw (hi : IndexLaw s) {r : GrantRecord} {rc : RecallRecord} (hr : r ∈ s.grantTable.records)
    (hrc : r.recallRecord = some rc) (h : SweepLaw s) : SweepLaw (s.resendRecall r rc) := by
  have hasked : RecallsAsked rc.wanted [r.slot] s (s.resendRecall r rc) := .set hi hr _ rfl
    (fun w ⟨rc', hrc', hwanted⟩ hw => by rw [Option.some.inj (hrc.symm.trans hrc')]; exact hwanted hw) id
  refine sweepLaw_same h rfl hasked.pendingKept fun ⟨q, hq, hp⟩ => ⟨_, List.mem_map_of_mem hq, ?_⟩
  split
  · exact hp
  · exact hp

/-! ## Removal, downgrade and the end of a session (R21, R23, R85, R93) -/

theorem detachRecord_sweepLaw (cause : RemovalCause) (hi : IndexLaw s) {r : GrantRecord}
    (hr : r ∈ s.grantTable.records) (h : SweepLaw s) : SweepLaw (s.detachRecord cause r) := by
  rw [detachRecord_eq]
  refine sweepLaw_resolved cause.resolution _ h rfl
    (fun q hq hp => ⟨q, List.mem_of_mem_filter hq, hp, fun _ _ => id⟩) fun hzero ⟨q, hq, hp⟩ => ?_
  refine ⟨q, List.mem_filter.mpr ⟨hq, decide_eq_true fun hslot => ?_⟩, hp⟩
  obtain rfl := slot_unique hi.2.1 hq hr hslot
  rw [if_pos hp] at hzero
  exact nomatch hzero

/-- An agent's records are gone, and the sweep has been told of those it waited for. -/
theorem sweepLaw_recordsLeft {a : AgentId} (how : Resolution) (h : SweepLaw s)
    (hrecords : t.grantTable.records = recordsLeft s a)
    (hsweep : t.sweep = (resolvedSweep s how (pendingOf s a) (recordsLeft s a)).1) : SweepLaw t := by
  refine sweepLaw_resolved how (pendingOf s a) h (by rw [hrecords, hsweep]) ?_ ?_
  · rw [hrecords]
    exact fun q hq hp => ⟨q, List.mem_of_mem_filter hq, hp, fun _ _ => id⟩
  · rw [hrecords]
    rintro hzero ⟨q, hq, hp⟩
    refine ⟨q, List.mem_filter.mpr ⟨hq, decide_eq_true fun hholder => ?_⟩, hp⟩
    exact List.countP_eq_zero.mp hzero q (List.mem_filter.mpr ⟨hq, decide_eq_true hholder⟩) hp

theorem endSession_sweepLaw (hi : IndexLaw s) (a : AgentId) (h : SweepLaw s) : SweepLaw (s.endSession a) := by
  rw [endSession_eq s a hi.2.1]
  exact sweepLaw_recordsLeft .byRelease h (a := a) rfl rfl

theorem fenceSteps_sweepLaw (hi : IndexLaw s) (a : AgentId) (cause : FenceCause) (h : SweepLaw s) :
    SweepLaw (s.fenceSteps a cause) := by
  rw [fenceSteps_eq s a cause hi.2.1]
  exact sweepLaw_recordsLeft .byFence h (a := a) rfl rfl

/-- A downgrade keeps a record pending only where the sweep is a REVOKE, whose recall it does not satisfy (R23). -/
theorem pendingUnder_downgraded {w : Sweep} {r : GrantRecord} (hsweep : s.sweep = some w)
    (hp : (downgradedRecord s r).sweepPending = true) (h : PendingUnder w r) :
    PendingUnder w (downgradedRecord s r) := by
  obtain ⟨hpending, hleaves⟩ : r.sweepPending = true ∧ leavesDemote s r = false := by
    simpa [downgradedRecord] using hp
  have hdemote : w.kind ≠ .demote := by simpa [leavesDemote, hpending, hsweep] using hleaves
  obtain ⟨hkind, rc, hrc, hwanted⟩ := h
  have hrevoke : w.kind = .revoke := by
    cases hk : w.kind with
    | revoke => rfl
    | demote => exact absurd hk hdemote
    | census => exact absurd hk hkind
  have hstays : wantsDowngrade r = false := by simp [wantsDowngrade, hrc, hwanted hrevoke]
  exact ⟨hkind, rc, by simp [downgradedRecord, hstays, hrc], hwanted⟩

theorem downgraded_sweepLaw {r : GrantRecord} (hr : r ∈ s.grantTable.records) (hi : IndexLaw s) (h : SweepLaw s) :
    SweepLaw (downgraded s r) := by
  refine sweepLaw_resolved .byDowngrade _ h rfl (List.forall_mem_map.mpr fun q hq => ?_) fun hzero ⟨q, hq, hp⟩ => ?_
  · split
    · intro hp
      have hpending : r.sweepPending = true := (Bool.and_eq_true_iff.mp hp).1
      exact ⟨r, hr, hpending, fun w hw => pendingUnder_downgraded hw hp⟩
    · exact fun hp => ⟨q, hq, hp, fun _ _ => id⟩
  · have hstays : leavesDemote s r = false := by simpa using hzero
    refine ⟨_, List.mem_map_of_mem hq, ?_⟩
    by_cases hslot : q.slot = r.slot
    · obtain rfl := slot_unique hi.2.1 hq hr hslot
      simp [downgradedRecord, hstays, hp]
    · rwa [if_neg hslot]

theorem downgradeRecord_sweepLaw {r : GrantRecord} (hr : r ∈ s.grantTable.records) (hi : IndexLaw s)
    (h : SweepLaw s) : SweepLaw (s.downgradeRecord r) := by
  have hdowngraded := downgraded_sweepLaw hr hi h
  rw [downgradeRecord_eq s r fun q hq => slot_unique hi.2.1 hq hr]
  split
  · exact sweepLaw_congr (by rw [(recordOutcome_quiet ..).grantTable]) (recordOutcome_sweep ..) hdowngraded
  · exact hdowngraded

/-- What a RELEASE does after steps 1 to 3 of R21 touches neither the records nor the sweep. -/
theorem releaseRecord_sweepLaw {r : GrantRecord} (hr : r ∈ s.grantTable.records) (hi : IndexLaw s) (h : SweepLaw s) :
    SweepLaw (s.removeRecord .release r) := by
  refine sweepLaw_congr (congrArg GrantTable.records (releaseRecord_tables s r).1) ?_
    (detachRecord_sweepLaw .release hi hr h)
  exact (dropConvert_walkEffect ..).sweep.trans (recordOutcome_sweep ..)

/-! ## The sweep's own steps (R106 to R109, R113, R114) -/

/-- A sweep that goes on scanning, with the kind it has, asks no more of the pending set. -/
theorem withSweep_sweepLaw {w v : Sweep} (hsweep : s.sweep = some w) (hkind : v.kind = w.kind)
    (hphase : v.phase ≠ .draining) (h : SweepLaw s) : SweepLaw (withSweep s (some v)) := by
  refine (sweepLaw_iff _).mpr ⟨fun r hr hp => ⟨v, rfl, ?_⟩, fun u hu hd => ?_⟩
  · have hpending := pendingUnder_of_sweepLaw h hsweep hr hp
    unfold PendingUnder at hpending ⊢
    rwa [hkind]
  · obtain rfl := Option.some.inj hu
    exact absurd hd hphase

/-- A record joins the pending set only under the recall the sweep has asked for (R107, R108). -/
theorem recalledBySweep_sweepLaw {w : Sweep} {r : GrantRecord} (hi : IndexLaw s) (hsweep : s.sweep = some w)
    (hrecalls : SweepRecalls w r) (h : SweepLaw s) : SweepLaw (recalledBySweep s w r) := by
  obtain ⟨f, htable, hf⟩ := requestRecall_asked (wanted := sweepWants w) hi r.slot .sweep
  refine (sweepLaw_iff _).mpr ⟨?_, fun v hv hd => ?_⟩
  · unfold recalledBySweep
    dsimp only
    rw [htable]
    dsimp only
    rw [List.map_map]
    refine List.forall_mem_map.mpr fun q hq hp => ⟨sweepRecalled w r, rfl, ?_⟩
    obtain ⟨⟨rc, hrc⟩, hkeeps, hasked⟩ := hf q hq
    by_cases hslot : q.slot = r.slot
    · obtain ⟨rc', hrc', hwanted⟩ := hasked (List.mem_singleton.mpr hslot)
      refine ⟨?_, rc', ?_, fun hrevoke => hwanted (if_pos hrevoke)⟩
      · show w.kind ≠ .census
        rcases hrecalls with hkind | ⟨hkind, -⟩ <;> simp [hkind]
      · unfold joinsPending
        dsimp only [Function.comp]
        split <;> exact hrc'
    · have hsame : joinsPending r.slot (f q) = f q := if_neg (by rw [hrc]; exact hslot)
      rw [Function.comp, hsame] at hp ⊢
      rw [hrc] at hp
      exact (pendingUnder_of_sweepLaw h hsweep hq hp).mono hkeeps
  · obtain rfl := Option.some.inj hv
    exact nomatch hd

theorem sweepReach_sweepLaw {w : Sweep} {r : GrantRecord} (hi : IndexLaw s) (hsweep : s.sweep = some w)
    (h : SweepLaw s) : SweepLaw (s.sweepReach w r) := by
  by_cases hexamined : SweepExamines w r
  · by_cases hrecalls : SweepRecalls w r
    · rw [sweepReach_recalls hsweep hexamined hrecalls]
      exact recalledBySweep_sweepLaw hi hsweep hrecalls h
    · rw [sweepReach_counted hsweep hexamined hrecalls]
      exact withSweep_sweepLaw hsweep rfl nofun h
  · rw [sweepReach_passed hsweep hexamined]
    exact withSweep_sweepLaw hsweep rfl nofun h

/-- A finished scan waits for what is pending, and otherwise the sweep is over (R106, R113). -/
theorem finishScan_sweepLaw {w : Sweep} (hsweep : s.sweep = some w) (h : SweepLaw s) : SweepLaw s.finishScan := by
  cases hempty : s.pendingEmpty with
  | true =>
    rw [finishScan_completes hsweep hempty]
    exact sweepLaw_of_none ((all_not_pending_iff _).mp hempty) nofun
  | false =>
    rw [finishScan_drains hsweep hempty]
    have hunder : ∀ r ∈ s.grantTable.records, r.sweepPending = true → PendingUnder w r := fun _ =>
      pendingUnder_of_sweepLaw h hsweep
    exact (sweepLaw_iff _).mpr ⟨fun r hr hp => ⟨_, rfl, hunder r hr hp⟩,
      fun _ _ _ => (pendingEmpty_false_iff s).mp hempty⟩

/-- An abort leaves nothing pending and no sweep (R114). -/
theorem aborted_sweepLaw (s : State) : SweepLaw (s.clearPending.endSweep .aborted) := by
  have hended : (s.clearPending.endSweep .aborted).sweep = none := by
    unfold State.endSweep
    split
    · assumption
    · rfl
  have hrecords : ¬SomePending (s.clearPending.endSweep .aborted).grantTable.records := by
    rw [(endSweep_quiet s.clearPending .aborted).grantTable]
    rintro ⟨r, hr, hp⟩
    obtain ⟨q, -, rfl⟩ := List.mem_map.mp hr
    exact nomatch hp
  exact sweepLaw_of_none hrecords (by simp [hended])

end

end Sys2Proof.Laws
end

section
/-!
SUPPORT. Every command against the law of the pending set. In the order of the model's files.
-/

namespace Sys2Proof.Laws

set_option Elab.async false

open Sys2Proof.Machine Sys2Proof.Safety

/-! ## Parts of a happening -/

/-- A part of a happening that keeps the index and, with it, the law of the pending set. -/
structure KeepsSweep (s t : State) : Prop where
  index : IndexLaw s → IndexLaw t
  sweep : IndexLaw s → SweepLaw s → SweepLaw t

section
variable {s t u : State}

theorem KeepsSweep.refl (s : State) : KeepsSweep s s := ⟨id, fun _ => id⟩

theorem KeepsSweep.trans (h : KeepsSweep s t) (k : KeepsSweep t u) : KeepsSweep s u where
  index hi := k.index (h.index hi)
  sweep hi hs := k.sweep (h.index hi) (h.sweep hi hs)

theorem KeepsSweep.of_moves (h : Moves s t) (hsweep : IndexLaw s → SweepLaw s → SweepLaw t) : KeepsSweep s t :=
  ⟨h.indexLaw, hsweep⟩

/-- Neither the Grant Table nor the sweep changes. -/
theorem KeepsSweep.of_same (htable : t.grantTable = s.grantTable := by rfl) (hsweep : t.sweep = s.sweep := by rfl) :
    KeepsSweep s t where
  index hi := by unfold IndexLaw; rw [htable]; exact hi
  sweep _ := sweepLaw_congr (by rw [htable]) hsweep

/-- No table changes, and the sweep does not. -/
theorem Quiet.keepsSweep (h : Quiet s t) (hsweep : t.sweep = s.sweep := by rfl) : KeepsSweep s t :=
  .of_same h.grantTable hsweep

end

/-! ## Wait List (Chapter 2) -/

section
variable {s : State}

theorem recallConflicts_keepsSweep (s : State) (c : Claim) : KeepsSweep s (s.recallConflicts c) :=
  .of_moves (recallConflicts_moves ..) fun hi => recallConflicts_sweepLaw hi c

/-- A claim that nothing stands in the way of is granted. -/
theorem grant_keepsSweep {ahead l : List WaitEntry} {c : Claim} (tag epoch : Nat) (h : s.obstacle ahead c = none) :
    KeepsSweep s ((s.setWaitList l).grant c tag epoch) where
  index hi := (grant_quiet ..).moves.indexLaw (indexLaw_tableGrant (s := s.setWaitList l) hi epoch (obstacle_none h).2)
  sweep _ hs := grant_sweepLaw (s := s.setWaitList l) c tag epoch hs

theorem refuse_keepsSweep (s : State) (a : AgentId) (tag : Nat) (code : RefusalCode) :
    KeepsSweep s (s.refuse a tag code) := .of_same

theorem appendEntry_keepsSweep (c : Claim) (tag epoch maxWait : Nat) (o : Obstacle) :
    KeepsSweep s (s.appendEntry c tag epoch maxWait o) := by
  have hjoins : ∀ e, KeepsSweep s (s.setWaitList (s.waitList ++ [e])) := fun e => .of_same
  unfold State.appendEntry
  dsimp only
  split
  · exact (hjoins _).trans (recallConflicts_keepsSweep ..)
  · exact hjoins _

theorem admission_keepsSweep (s : State) (c : Claim) (tag epoch maxWait : Nat) :
    KeepsSweep s (s.admission c tag epoch maxWait) := by
  cases hobstacle : s.obstacle s.waitList c with
  | none =>
    rw [admission_granted hobstacle]
    exact grant_keepsSweep (l := s.waitList) tag epoch hobstacle
  | some o =>
    rw [admission_blocked hobstacle]
    split
    · exact refuse_keepsSweep ..
    · split
      · exact refuse_keepsSweep ..
      · split
        · exact refuse_keepsSweep ..
        · exact appendEntry_keepsSweep ..

theorem setEntryState_keepsSweep (s : State) (place : Nat) (state : EntryState) :
    KeepsSweep s (s.setEntryState place state) := .of_same

theorem visitEntry_keepsSweep (s : State) (place : Nat) (e : WaitEntry) : KeepsSweep s (s.visitEntry place e).1 := by
  unfold State.visitEntry
  split
  · exact grant_keepsSweep _ _ ‹_›
  · exact setEntryState_keepsSweep ..
  · exact .refl s
  · exact setEntryState_keepsSweep ..
  · exact .refl s
  · exact (setEntryState_keepsSweep ..).trans (recallConflicts_keepsSweep ..)
  · exact .refl s
  · exact setEntryState_keepsSweep ..

theorem walkFrom_keepsSweep : ∀ (fuel place : Nat) (s : State), KeepsSweep s (State.walkFrom fuel place s)
  | 0, _, s => .refl s
  | fuel + 1, place, s => by
    unfold State.walkFrom
    split
    · exact .refl s
    · exact (visitEntry_keepsSweep ..).trans (walkFrom_keepsSweep fuel ..)

/-- A part of a happening is followed by a walk. -/
theorem KeepsSweep.walked {t : State} (h : KeepsSweep s t) : KeepsSweep s t.reevaluate :=
  h.trans (walkFrom_keepsSweep ..)

theorem expelEntry_keepsSweep (s : State) (a : AgentId) (tag : Nat) (code : RefusalCode) :
    KeepsSweep s (s.expelEntry a tag code) := .walked .of_same

/-! ## Removal, downgrade and the end of a session (R21, R23, R85, R93) -/

theorem releaseRecord_keepsSweep {r : GrantRecord} (hr : r ∈ s.grantTable.records) :
    KeepsSweep s (s.removeRecord .release r) := .of_moves (releaseRecord_moves hr) (releaseRecord_sweepLaw hr)

theorem downgradeRecord_keepsSweep {r : GrantRecord} (hr : r ∈ s.grantTable.records) :
    KeepsSweep s (s.downgradeRecord r) := .of_moves (downgradeRecord_moves s r) (downgradeRecord_sweepLaw hr)

theorem endSession_keepsSweep (s : State) (a : AgentId) : KeepsSweep s (s.endSession a) :=
  .of_moves (endSession_moves s a).1 fun hi => endSession_sweepLaw hi a

theorem fence_keepsSweep (s : State) (a : AgentId) (cause : FenceCause) : KeepsSweep s (s.fence a cause) :=
  .walked (.of_moves (fenceSteps_moves s a cause).1 fun hi => fenceSteps_sweepLaw hi a cause)

end

/-! ## Answerable frames -/

section
variable (a : AgentId)

theorem onAnswerable_keepsSweep {act : State → Frame AnswerableKind → State} (h : ∀ t f, KeepsSweep t (act t f))
    (s : State) (k : AnswerableKind) : KeepsSweep s (s.onAnswerable a k act) := by
  rcases onAnswerable_cases s a k act with ⟨-, hidle⟩ | ⟨f, rest, -, htaken⟩
  · rw [hidle]
    exact .refl s
  · rw [htaken]
    exact ((afterTakingAnswerable_quiet ..).keepsSweep (afterTakingAnswerable_sweep ..)).trans (h ..)

theorem handleJoin_keepsSweep (s : State) (f : Frame AnswerableKind) : KeepsSweep s (State.handleJoin a s f) := by
  unfold State.handleJoin State.acceptJoin
  split
  · exact refuse_keepsSweep ..
  · split
    · exact ((endSession_keepsSweep s a).trans .of_same).walked
    · exact .of_same

theorem handleAcquire_keepsSweep (s : State) (f : Frame AnswerableKind) :
    KeepsSweep s (State.handleAcquire a s f) := by
  unfold State.handleAcquire
  split
  · exact refuse_keepsSweep ..
  · split
    · exact refuse_keepsSweep ..
    · split
      · exact refuse_keepsSweep ..
      · exact admission_keepsSweep ..

theorem convertSubject_keepsSweep (s : State) (tag epoch : Nat) (q : ConvertFields) :
    KeepsSweep s (s.convertSubject a tag epoch q) := by
  unfold State.convertSubject State.convertUp
  split
  · exact refuse_keepsSweep ..
  · rename_i hlookup
    obtain ⟨hr, -⟩ := lookup_some hlookup
    split
    · exact refuse_keepsSweep ..
    · split
      · exact refuse_keepsSweep ..
      · split
        · exact (downgradeRecord_keepsSweep hr).walked.trans .of_same
        · split
          · exact refuse_keepsSweep ..
          · exact admission_keepsSweep ..

theorem handleConvert_keepsSweep (s : State) (f : Frame AnswerableKind) :
    KeepsSweep s (State.handleConvert a s f) := by
  unfold State.handleConvert
  split
  · exact refuse_keepsSweep ..
  · split
    · exact refuse_keepsSweep ..
    · split
      · exact convertSubject_keepsSweep ..
      · exact refuse_keepsSweep ..

theorem handleQuery_keepsSweep (s : State) (f : Frame AnswerableKind) : KeepsSweep s (State.handleQuery a s f) := by
  unfold State.handleQuery
  split
  · exact refuse_keepsSweep ..
  · split
    · exact refuse_keepsSweep ..
    · split
      · exact refuse_keepsSweep ..
      · split
        · exact refuse_keepsSweep ..
        · exact .of_same

theorem handleLeave_keepsSweep (s : State) (f : Frame AnswerableKind) : KeepsSweep s (State.handleLeave a s f) := by
  unfold State.handleLeave
  split
  · exact refuse_keepsSweep ..
  · split
    · exact refuse_keepsSweep ..
    · exact ((endSession_keepsSweep s a).trans .of_same).walked

/-! ## Closing frames -/

theorem closingChecks_keepsSweep {act : State → Frame ClosingKind → State} (h : ∀ t f, KeepsSweep t (act t f))
    (s : State) (f : Frame ClosingKind) : KeepsSweep s (State.closingChecks a act s f) := by
  unfold State.closingChecks
  split
  · exact .of_same
  · split
    · exact .of_same
    · exact .of_same
    · split
      · exact .of_same
      · split
        · exact .of_same
        · exact h s f

theorem onClosing_keepsSweep {act : State → Frame ClosingKind → State} (h : ∀ t f, KeepsSweep t (act t f))
    (s : State) (k : ClosingKind) : KeepsSweep s (s.onClosing a k act) := by
  rcases onClosing_cases s a k act with ⟨-, hidle⟩ | ⟨f, rest, -, htaken⟩
  · rw [hidle]
    exact .refl s
  · rw [htaken]
    exact ((afterTakingClosing_quiet ..).keepsSweep (afterTakingClosing_sweep ..)).trans
      (closingChecks_keepsSweep a h ..)

theorem handleRelease_keepsSweep (s : State) (f : Frame ClosingKind) : KeepsSweep s (State.handleRelease a s f) := by
  unfold State.handleRelease
  split
  · exact .of_same
  · rename_i hlookup
    obtain ⟨hr, -⟩ := lookup_some hlookup
    exact (releaseRecord_keepsSweep hr).walked

theorem handleDowngrade_keepsSweep (s : State) (f : Frame ClosingKind) :
    KeepsSweep s (State.handleDowngrade a s f) := by
  unfold State.handleDowngrade
  split
  · exact .of_same
  · rename_i hlookup
    obtain ⟨hr, -⟩ := lookup_some hlookup
    split
    · exact .of_same
    · exact (downgradeRecord_keepsSweep hr).walked

theorem handleCancel_keepsSweep (s : State) (f : Frame ClosingKind) : KeepsSweep s (State.handleCancel a s f) := by
  unfold State.handleCancel
  split
  · exact .of_same
  · exact expelEntry_keepsSweep ..

/-! ## Deadlines that pass (R48, R66, R89) -/

theorem waitDeadlinePasses_keepsSweep (s : State) (tag : Nat) : KeepsSweep s (s.waitDeadlinePasses a tag) := by
  unfold State.waitDeadlinePasses
  split
  · exact .refl s
  · split
    · exact expelEntry_keepsSweep ..
    · exact .refl s

theorem leaseDeadlinePasses_keepsSweep (s : State) : KeepsSweep s (s.leaseDeadlinePasses a) := by
  unfold State.leaseDeadlinePasses
  split
  · split
    · exact fence_keepsSweep ..
    · exact .refl s
  · exact .refl s

end

theorem recallDeadlinePasses_keepsSweep (s : State) (slot : Nat) : KeepsSweep s (s.recallDeadlinePasses slot) := by
  unfold State.recallDeadlinePasses
  split
  · exact .refl s
  · rename_i r hat
    split
    · exact .refl s
    · rename_i rc hrc
      split
      · split
        · have hr := recordAt_mem hat
          exact .of_moves (resendRecall_moves s hr hrc) fun hi => resendRecall_sweepLaw hi hr hrc
        · exact fence_keepsSweep ..
      · exact .refl s

/-! ## Sweep steps (R106) -/

theorem walkAfterStep_keepsSweep {s t : State} (h : KeepsSweep s t) : KeepsSweep s (s.walkAfterStep t) := by
  unfold State.walkAfterStep
  split
  · exact h.walked
  · exact h

theorem sweepOnce_keepsSweep (s : State) : KeepsSweep s s.sweepOnce := by
  cases hsweep : s.sweep with
  | none => rw [sweepOnce_notScanning (by simp [hsweep])]; exact .refl s
  | some w =>
    have hreaches : ∀ r, KeepsSweep s (s.sweepReach w r) := fun r =>
      .of_moves (sweepReach_moves s w r) fun hi => sweepReach_sweepLaw hi hsweep
    have hfinishes : KeepsSweep s s.finishScan :=
      .of_moves (finishScan_moves s) fun _ => finishScan_sweepLaw hsweep
    unfold State.sweepOnce
    rw [hsweep]
    dsimp only
    split
    · exact .refl s
    · split
      · exact walkAfterStep_keepsSweep hfinishes
      · split
        · exact walkAfterStep_keepsSweep (hreaches _)
        · exact walkAfterStep_keepsSweep hfinishes

/-! ## Management commands (Chapter 8) -/

/-- What a management command comes to keeps the law of the pending set. -/
abbrev AnswerKeepsSweep (s : State) : Answer → Prop := AnswerHolds (KeepsSweep s)

section
variable {s : State}

theorem answerKeepsSweep_done {t : State} {result : MgmtResult} (h : KeepsSweep s t) :
    AnswerKeepsSweep s (.done t result) := h

/-- An answer that changes neither the Grant Table nor the sweep. -/
theorem answerKeepsSweep_same {t : State} {result : MgmtResult} (htable : t.grantTable = s.grantTable := by rfl)
    (hsweep : t.sweep = s.sweep := by rfl) : AnswerKeepsSweep s (.done t result) := KeepsSweep.of_same htable hsweep

theorem onCommand_keepsSweep {act : State → List Byte → Answer} (h : ∀ t body, AnswerKeepsSweep t (act t body))
    (s : State) (k : CommandKind) : KeepsSweep s (s.onCommand k act) := by
  rcases onCommand_cases s k act with ⟨-, hidle⟩ | ⟨f, rest, -, htaken⟩
  · rw [hidle]
    exact .refl s
  · rw [htaken]
    have hact := h s.afterTakingCommand f.body
    cases hanswer : act s.afterTakingCommand f.body with
    | refuse status => exact .of_same
    | done t result =>
      rw [hanswer] at hact
      have htaking : KeepsSweep s s.afterTakingCommand := .of_same
      have hdone : KeepsSweep s.afterTakingCommand t := hact
      exact (htaking.trans hdone).trans .of_same

theorem onAgent_keepsSweep {act : State → AgentId → Answer} (h : ∀ t a, AnswerKeepsSweep t (act t a)) (s : State)
    (body : List Byte) : AnswerKeepsSweep s (State.onAgent act s body) := by
  unfold State.onAgent
  split
  · trivial
  · split
    · trivial
    · exact h ..

theorem runConfigure_keepsSweep (s : State) (body : List Byte) : AnswerKeepsSweep s (s.runConfigure body) := by
  unfold State.runConfigure
  refine answerHolds_unless fun hunconfigured => ?_
  split
  · trivial
  · rename_i q hq
    have hconfigures := applyConfigure_configures (not_not.mp hunconfigured) (configureFields_some hq)
    exact ⟨hconfigures.indexLaw, fun _ => sweepLaw_congr hconfigures.records rfl⟩

theorem setGroupParam_keepsSweep (s : State) (identifier selector value : Nat) :
    AnswerKeepsSweep s (s.setGroupParam identifier selector value) := by
  have hclear : ∀ g f, KeepsSweep s ((s.setGroup g f).clearGroupWindows g) := fun g f =>
    .of_same (clearGroupWindows_quiet (s.setGroup g f) g).grantTable (clearGroupWindows_sweep ..)
  unfold State.setGroupParam
  split
  · trivial
  · dsimp only
    split
    · exact answerHolds_if fun _ => hclear ..
    · exact answerHolds_if fun _ => hclear ..
    · exact answerHolds_if fun _ => hclear ..
    · exact answerHolds_if fun _ => answerKeepsSweep_same

theorem setAgentGroup_keepsSweep (s : State) (selector value : Nat) :
    AnswerKeepsSweep s (s.setAgentGroup selector value) := by
  unfold State.setAgentGroup
  split
  · trivial
  · split
    · trivial
    · exact answerKeepsSweep_same

theorem setOneParam_keepsSweep (s : State) (q : SetParamFields) : AnswerKeepsSweep s (s.setOneParam q) := by
  unfold State.setOneParam
  split
  · exact answerHolds_unless fun _ => answerHolds_unless fun _ => answerKeepsSweep_same
  · exact answerHolds_if fun _ => answerKeepsSweep_same
  · exact answerHolds_if fun _ => answerKeepsSweep_same
  · exact answerHolds_if fun _ => answerKeepsSweep_same
  · exact setGroupParam_keepsSweep ..
  · exact setGroupParam_keepsSweep ..
  · exact setGroupParam_keepsSweep ..
  · exact setGroupParam_keepsSweep ..
  · exact setAgentGroup_keepsSweep ..
  · trivial

theorem runSetParam_keepsSweep (s : State) (body : List Byte) : AnswerKeepsSweep s (s.runSetParam body) := by
  unfold State.runSetParam
  refine answerHolds_unless fun _ => ?_
  split
  · trivial
  · exact setOneParam_keepsSweep ..

theorem runAdmit_keepsSweep (s : State) (a : AgentId) : AnswerKeepsSweep s (s.runAdmit a) := answerKeepsSweep_same

theorem runEvict_keepsSweep (s : State) (a : AgentId) : AnswerKeepsSweep s (s.runEvict a) := by
  have hcleared : KeepsSweep s (s.modSession a fun x => { x with admitFlag := false }) := .of_same
  unfold State.runEvict
  dsimp only
  split
  · exact answerKeepsSweep_done (hcleared.trans (fence_keepsSweep ..))
  · exact answerKeepsSweep_done hcleared

theorem runAckChurn_keepsSweep (s : State) (a : AgentId) : AnswerKeepsSweep s (s.runAckChurn a) :=
  answerKeepsSweep_same

theorem runPause_keepsSweep (s : State) (body : List Byte) : AnswerKeepsSweep s (s.runPause body) :=
  answerHolds_unless fun _ => answerHolds_unless fun _ => answerKeepsSweep_same

theorem runResume_keepsSweep (s : State) (body : List Byte) : AnswerKeepsSweep s (s.runResume body) :=
  answerHolds_unless fun _ => answerHolds_unless fun _ => answerKeepsSweep_same

/-- A sweep starts in SCANNING, and only while none is active (R103, R104). -/
theorem runSweepStart_keepsSweep (s : State) (body : List Byte) : AnswerKeepsSweep s (s.runSweepStart body) := by
  unfold State.runSweepStart
  refine answerHolds_unless fun _ => ?_
  split
  · trivial
  · refine answerHolds_unless fun hidle => ?_
    have hnone : s.sweep = none := by simpa using hidle
    split
    · trivial
    · refine answerHolds_unless fun _ => answerHolds_unless fun _ => answerKeepsSweep_done ?_
      refine .of_moves (.single (.sweepStarts _)) fun _ hs => ?_
      have hpending := sweepLaw_idle hs hnone
      exact sweepLaw_of_none hpending fun w hw => Option.some.inj hw ▸ nofun

theorem runSweepAbort_keepsSweep (s : State) (body : List Byte) : AnswerKeepsSweep s (s.runSweepAbort body) := by
  have haborted : KeepsSweep s (s.clearPending.endSweep .aborted) :=
    .of_moves ((clearPending_moves s).trans (endSweep_quiet ..).moves) fun _ _ => aborted_sweepLaw s
  exact answerHolds_unless fun _ => answerHolds_unless fun _ => answerKeepsSweep_done haborted.walked

theorem runQueryExtent_keepsSweep (s : State) (body : List Byte) : AnswerKeepsSweep s (s.runQueryExtent body) := by
  unfold State.runQueryExtent
  refine answerHolds_unless fun _ => ?_
  split
  · trivial
  · exact answerHolds_unless fun _ => answerKeepsSweep_same

theorem runQueryAgent_keepsSweep (s : State) (a : AgentId) : AnswerKeepsSweep s (s.runQueryAgent a) :=
  answerKeepsSweep_same

theorem runReadCounters_keepsSweep (s : State) (body : List Byte) : AnswerKeepsSweep s (s.runReadCounters body) := by
  unfold State.runReadCounters State.readAgentCounters State.readMgmtCounters
  split
  · trivial
  · refine answerHolds_unless fun _ => answerHolds_unless fun _ => ?_
    split
    · split <;> exact answerKeepsSweep_same
    · split <;> exact answerKeepsSweep_same

theorem runReportResume_keepsSweep (s : State) (body : List Byte) : AnswerKeepsSweep s (s.runReportResume body) := by
  unfold State.runReportResume
  refine answerHolds_unless fun _ => ?_
  split
  · exact answerKeepsSweep_same
  · exact answerKeepsSweep_same

/-! ### RESET_DIRECTORY (R171) -/

/-- The reset leaves no sweep. -/
theorem resetTables_sweep (s : State) : s.resetTables.sweep = none := by
  unfold State.resetTables
  extract_lets s1 s2 s3 s4 s5
  have hsessions : s5.sweep = s4.sweep := foldl_sweep (fun t a => by unfold State.resetSession; split <;> rfl) _ s4
  clear_value s5
  refine hsessions.trans ?_
  unfold s4 State.endSweep
  split
  · assumption
  · rfl

theorem resetTables_keepsSweep (s : State) : KeepsSweep s s.resetTables :=
  .of_moves (resetTables_moves s) fun _ _ =>
    sweepLaw_congr (s := .reset) (resetTables_records s) (resetTables_sweep s) reset_sweepLaw

theorem runResetDirectory_keepsSweep (s : State) (body : List Byte) : AnswerKeepsSweep s (s.runResetDirectory body) :=
  answerHolds_unless fun _ => answerHolds_unless fun _ => answerKeepsSweep_done (resetTables_keepsSweep s)

end

/-! ## Every command -/

/-- Every command but POWER_ON keeps the law of the pending set. -/
theorem exec_keepsSweep {c : Instr} (hpower : c ≠ .powerOn) (s : State) :
    ∃ t, exec c s = .next t ∧ KeepsSweep s t := by
  cases c with
  | powerOn => exact absurd rfl hpower
  | millisecondTick => exact ⟨_, rfl, (millisecondTick_quiet s).keepsSweep (millisecondTick_sweep s)⟩
  | signalFound link => exact ⟨_, rfl, (signalFound_quiet s link).keepsSweep (signalFound_sweep s link)⟩
  | signalLost link => exact ⟨_, rfl, (signalLost_quiet s link).keepsSweep (signalLost_sweep s link)⟩
  | frameArrival a bytes => exact ⟨_, rfl, (frameArrives_quiet s a bytes).keepsSweep (frameArrives_sweep s a bytes)⟩
  | join a => exact ⟨_, rfl, onAnswerable_keepsSweep a (handleJoin_keepsSweep a) s .join⟩
  | acquire a => exact ⟨_, rfl, onAnswerable_keepsSweep a (handleAcquire_keepsSweep a) s .acquire⟩
  | convert a => exact ⟨_, rfl, onAnswerable_keepsSweep a (handleConvert_keepsSweep a) s .convert⟩
  | query a => exact ⟨_, rfl, onAnswerable_keepsSweep a (handleQuery_keepsSweep a) s .query⟩
  | leave a => exact ⟨_, rfl, onAnswerable_keepsSweep a (handleLeave_keepsSweep a) s .leave⟩
  | release a => exact ⟨_, rfl, onClosing_keepsSweep a (handleRelease_keepsSweep a) s .release⟩
  | downgrade a => exact ⟨_, rfl, onClosing_keepsSweep a (handleDowngrade_keepsSweep a) s .downgrade⟩
  | cancel a => exact ⟨_, rfl, onClosing_keepsSweep a (handleCancel_keepsSweep a) s .cancel⟩
  | keepalive a => exact ⟨_, rfl, onClosing_keepsSweep a (fun t _ => .refl t) s .keepalive⟩
  | waitDeadline a tag => exact ⟨_, rfl, waitDeadlinePasses_keepsSweep a s tag⟩
  | recallDeadline slot => exact ⟨_, rfl, recallDeadlinePasses_keepsSweep s slot⟩
  | sessionLeaseExpiry a => exact ⟨_, rfl, leaseDeadlinePasses_keepsSweep a s⟩
  | sweepStep => exact ⟨_, rfl, sweepOnce_keepsSweep s⟩
  | agentLinkSend a =>
    obtain ⟨htable, hsweep⟩ := agentLinkSends_frame s a
    exact ⟨_, rfl, .of_same htable hsweep⟩
  | endOfTransmission link =>
    cases link with
    | agent a => exact ⟨_, rfl, .of_same⟩
    | mgmt => exact ⟨_, rfl, .of_same⟩
  | mgmtFrameArrival bytes =>
    exact ⟨_, rfl, (mgmtFrameArrives_quiet s bytes).keepsSweep (mgmtFrameArrives_sweep s bytes)⟩
  | mgmtLinkSend => exact ⟨_, rfl, (mgmtLinkSends_quiet s).keepsSweep (mgmtLinkSends_sweep s)⟩
  | reportAck => exact ⟨_, rfl, (reportAckTaken_quiet s).keepsSweep (reportAckTaken_sweep s)⟩
  | configure => exact ⟨_, rfl, onCommand_keepsSweep runConfigure_keepsSweep s .configure⟩
  | setParam => exact ⟨_, rfl, onCommand_keepsSweep runSetParam_keepsSweep s .setParam⟩
  | admitAgent => exact ⟨_, rfl, onCommand_keepsSweep (onAgent_keepsSweep runAdmit_keepsSweep) s .admitAgent⟩
  | evict => exact ⟨_, rfl, onCommand_keepsSweep (onAgent_keepsSweep runEvict_keepsSweep) s .evict⟩
  | pause => exact ⟨_, rfl, onCommand_keepsSweep runPause_keepsSweep s .pause⟩
  | resume => exact ⟨_, rfl, onCommand_keepsSweep runResume_keepsSweep s .resume⟩
  | sweepStart => exact ⟨_, rfl, onCommand_keepsSweep runSweepStart_keepsSweep s .sweepStart⟩
  | sweepAbort => exact ⟨_, rfl, onCommand_keepsSweep runSweepAbort_keepsSweep s .sweepAbort⟩
  | queryExtent => exact ⟨_, rfl, onCommand_keepsSweep runQueryExtent_keepsSweep s .queryExtent⟩
  | queryAgent => exact ⟨_, rfl, onCommand_keepsSweep (onAgent_keepsSweep runQueryAgent_keepsSweep) s .queryAgent⟩
  | ackChurn => exact ⟨_, rfl, onCommand_keepsSweep (onAgent_keepsSweep runAckChurn_keepsSweep) s .ackChurn⟩
  | reportResume => exact ⟨_, rfl, onCommand_keepsSweep runReportResume_keepsSweep s .reportResume⟩
  | readCounters => exact ⟨_, rfl, onCommand_keepsSweep runReadCounters_keepsSweep s .readCounters⟩
  | resetDirectory => exact ⟨_, rfl, onCommand_keepsSweep runResetDirectory_keepsSweep s .resetDirectory⟩

/-- Every step keeps the law of the pending set. -/
theorem step_sweepLaw {s t : State} (h : step s = .next t) (hi : IndexLaw s) (hs : SweepLaw s) : SweepLaw t := by
  unfold step at h
  split at h
  · exact Host.Outcome.next.inj h ▸ hs
  · rename_i c rest _
    by_cases hpower : c = .powerOn
    · subst hpower
      obtain rfl := Host.Outcome.next.inj h
      exact sweepLaw_congr (s := .reset) rfl rfl reset_sweepLaw
    · obtain ⟨u, hexec, hkeeps⟩ := exec_keepsSweep hpower { s with pending := rest }
      obtain rfl : u = t := Host.Outcome.next.inj (hexec.symm.trans h)
      exact hkeeps.sweep hi (sweepLaw_congr rfl rfl hs)

end Sys2Proof.Laws
end

section
/-!
The statement about the pending set of a sweep.
-/

namespace Sys2Proof.Proofs

open Sys2Proof.Machine Sys2Proof.Safety Sys2Proof.Laws

/-- Settles O14: a record joins the pending set under the recall the sweep asked for, keeps at least that recall while it is
pending, and the last one to leave a sweep in DRAINING completes it. -/
theorem pendingSetStaysSound : Obligations.PendingSetStaysSound := fun _ _ hi hs hstep => step_sweepLaw hstep hi hs

end Sys2Proof.Proofs
end

section
/-!
SUPPORT. READ_COUNTERS: its tests in order, the group alarm status it reports, and what an accepted one answers and leaves
(R126, R169, R170).
-/

namespace Sys2Proof.Laws

open Sys2Proof.Machine Sys2Proof.Safety

/-! ## The group alarm status (R126) -/

theorem groupAlarm_eq_decide (s : State) (g : GroupId) : s.groupAlarm g =
    decide (∃ b : AgentId, (s.session b).group = g ∧ (s.member b).alarm = true) := by
  rw [Bool.eq_iff_iff]
  simp [State.groupAlarm, mem_allAgents]

/-! ## The agent a byte names -/

theorem agentOf_val (a : AgentId) : agentOf a.val = some a := dif_pos a.isLt

theorem agentOf_eight : agentOf 8 = none := rfl

/-! ## The tests of READ_COUNTERS, in order (R169) -/

section
variable {s : State} {body : List Byte}

theorem readCountersFields_some (h : body.length = 2) :
    readCountersFields body = some (field body 0 1, field body 1 1) := if_pos h

theorem readCountersFields_none (h : body.length ≠ 2) : readCountersFields body = none := if_neg h

theorem runReadCounters_badLength (h : body.length ≠ 2) : s.runReadCounters body = .refuse .badParam := by
  simp only [State.runReadCounters, readCountersFields_none h]

variable (hlength : body.length = 2)
include hlength

theorem runReadCounters_badAgent (h : 8 < field body 0 1) : s.runReadCounters body = .refuse .badAgent := by
  simp only [State.runReadCounters, readCountersFields_some hlength, if_pos h]

theorem runReadCounters_badClear (hagent : field body 0 1 ≤ 8) (h : 1 < field body 1 1) :
    s.runReadCounters body = .refuse .badParam := by
  simp only [State.runReadCounters, readCountersFields_some hlength, if_neg (Nat.not_lt_of_le hagent), if_pos h]

variable (hclear : field body 1 1 ≤ 1)
include hclear

theorem runReadCounters_agent {a : AgentId} (h : field body 0 1 = a.val) :
    s.runReadCounters body = s.readAgentCounters a (field body 1 1 = 1) := by
  have hagent : ¬8 < a.val := by omega
  simp only [State.runReadCounters, readCountersFields_some hlength, h, if_neg hagent,
    if_neg (Nat.not_lt_of_le hclear), agentOf_val]

theorem runReadCounters_mgmt (h : field body 0 1 = 8) :
    s.runReadCounters body = s.readMgmtCounters (field body 1 1 = 1) := by
  simp only [State.runReadCounters, readCountersFields_some hlength, h, if_neg (Nat.lt_irrefl 8),
    if_neg (Nat.not_lt_of_le hclear), agentOf_eight]

end

/-! ## What is left of the counters read -/

/-- The counters of an agent read, and cleared if asked. -/
theorem clearedCounters_eq (s : State) (a : AgentId) (clear : Prop) [Decidable clear] :
    (if decide clear then s.modCounters a fun _ => .zero else s) =
      withSession s a
        { s.session a with counters := if clear then ⟨0, 0, 0, 0, 0, 0, 0⟩ else (s.session a).counters } := by
  by_cases h : clear
  · simp only [h, decide_true, if_true]
    rfl
  · simp only [h, decide_false, if_false, Bool.false_eq_true]
    exact (congrArg (fun p => { s with sessions := p }) (PerAgent.set_get s.sessions a)).symm

/-- LI-M's counters read, and cleared if asked. -/
theorem clearedMgmtCounters_eq (s : State) (clear : Prop) [Decidable clear] :
    (if decide clear then s.modMgmtCounters fun _ => .zero else s) =
      { s with mgmtLink :=
        { s.mgmtLink with counters := if clear then ⟨0, 0, 0, 0⟩ else s.mgmtLink.counters } } := by
  by_cases h : clear
  · simp only [h, decide_true, if_true]
    rfl
  · simp only [h, decide_false, if_false, Bool.false_eq_true]

/-- A READ_COUNTERS answered: its tests, against the state once the command is taken. -/
theorem exec_readCounters {s : State} {f : Frame CommandKind} {rest : List (Frame CommandKind)}
    (h : CommandHead s .readCounters f rest) : exec .readCounters s =
      .next (s.afterTakingCommand.answer f.tag (s.afterTakingCommand.runReadCounters f.body)) :=
  congrArg Host.Outcome.next (onCommand_head _ h)

end Sys2Proof.Laws
end

section
/-!
The statement about READ_COUNTERS.
-/

namespace Sys2Proof.Proofs

open Sys2Proof.Machine Sys2Proof.Safety Sys2Proof.Laws

/-- Settles O57: the tests in order, and the counters read from the state in which this command is already counted. -/
theorem countersReadAndCleared : Obligations.CountersReadAndCleared := by
  intro s f rest hhead n clear l taken alarmed refusing
  have hrefused : ∀ status, s.afterTakingCommand.runReadCounters f.body = .refuse status → refusing status :=
    fun status hrun => (exec_readCounters hhead).trans (by rw [hrun, answer_refuse hhead])
  refine ⟨?_, ?_, ?_, ?_, ?_⟩
  · exact fun hlength => hrefused _ (runReadCounters_badLength hlength)
  · exact fun hlength hagent => hrefused _ (runReadCounters_badAgent hlength hagent)
  · exact fun hlength hagent hclear => hrefused _ (runReadCounters_badClear hlength hagent hclear)
  · intro a hlength hagent hclear
    rw [exec_readCounters hhead, runReadCounters_agent hlength hclear hagent, State.readAgentCounters,
      clearedCounters_eq, answer_done, afterTakingCommand_head hhead]
    rfl
  · intro hlength hmgmt hclear status reply
    rw [exec_readCounters hhead, runReadCounters_mgmt hlength hclear hmgmt, State.readMgmtCounters,
      clearedMgmtCounters_eq, answer_done, State.statusBody, groupAlarm_eq_decide, groupAlarm_eq_decide,
      afterTakingCommand_head hhead]
    rfl

end Sys2Proof.Proofs
end

section
/-!
SUPPORT. What `ParamLaw` and `ChurnLaw` read of a state, and the operations that leave all of it as it is. In the order of
the model's files.
-/

namespace Sys2Proof.Laws

-- One lemma at a time: checked at once, so many would start more threads than the memory limit of check.sh allows.
set_option Elab.async false

open Sys2Proof.Machine Sys2Proof.Safety

/-! ## What the laws of the configuration read -/

/-- Directory state, parameters and group settings, and each agent's group and outcome window. -/
structure ConfigView where
  management : Management
  groups : PerGroup GroupSettings
  groupOf : AgentId → GroupId
  windowOf : AgentId → List ChurnOutcome

/-- What `ParamLaw` and `ChurnLaw` read of a state. -/
def configView (s : State) : ConfigView :=
  { management := s.management
    groups := s.churn.groups
    groupOf := fun a => (s.session a).group
    windowOf := fun a => (s.member a).window }

theorem management_of_view {s t : State} (h : configView t = configView s) : t.management = s.management :=
  congrArg ConfigView.management h

theorem settings_of_view {s t : State} (h : configView t = configView s) (a : AgentId) : t.settings a = s.settings a :=
  congrArg (fun v => v.groups.get (v.groupOf a)) h

section
variable {s : State}

/-- A session changes and its group stays. -/
theorem configView_modSession {a : AgentId} {f : Session → Session} (h : ∀ x, (f x).group = x.group) :
    configView (s.modSession a f) = configView s := by
  have hgroups : (fun b => ((s.modSession a f).session b).group) = fun b => (s.session b).group := by
    funext b
    rw [State.modSession_session]
    split
    · exact h _
    · rfl
  exact congrArg (fun x => { configView s with groupOf := x }) hgroups

/-- An agent's churn record changes and its window stays. -/
theorem configView_modMember {a : AgentId} {f : ChurnMember → ChurnMember} (h : ∀ m, (f m).window = m.window) :
    configView (s.modMember a f) = configView s := by
  have hwindows : (fun b => ((s.modMember a f).member b).window) = fun b => (s.member b).window := by
    funext b
    rw [State.modMember_member]
    split
    · exact h _
    · rfl
  exact congrArg (fun x => { configView s with windowOf := x }) hwindows

theorem configView_foldl {α : Type} {f : State → α → State} (h : ∀ t x, configView (f t x) = configView t) :
    ∀ (l : List α) (s : State), configView (l.foldl f s) = configView s
  | [], _ => rfl
  | x :: l, s => (configView_foldl h l (f s x)).trans (h s x)

/-- A walk and its operations leave the configuration as it is. -/
theorem configView_of_walk {t : State} (h : WalkEffect s t) : configView t = configView s := by
  have hgroups : (fun a => (t.session a).group) = fun a => (s.session a).group := by
    funext a
    obtain ⟨-, -, hsame⟩ := h.sessions a
    exact (congrArg Session.group hsame).symm
  unfold configView State.member
  rw [hgroups, h.management, h.churn]

end

/-! ## The shared operations -/

section
variable (s : State) (a : AgentId)

theorem configView_modCounters (f : AgentCounters → AgentCounters) :
    configView (s.modCounters a f) = configView s := configView_modSession fun _ => rfl

theorem configView_protocolError (kind : ProtocolErrorKind) (code : Nat) :
    configView (s.protocolError a kind code) = configView s :=
  configView_modCounters s a AgentCounters.addProtocolError

theorem configView_lateFrame : configView (s.lateFrame a) = configView s := configView_modCounters ..

theorem configView_renewLease (epoch : Nat) : configView (s.renewLease a epoch) = configView s := by
  unfold State.renewLease
  split
  · split
    · exact configView_modSession fun _ => rfl
    · rfl
  · rfl

/-! ## Agent links (Chapter 7) -/

theorem configView_signalFound (link : LinkId) : configView (s.signalFound link) = configView s := by
  unfold State.signalFound
  cases link with
  | agent a => dsimp only; split <;> rfl
  | mgmt => dsimp only; split <;> rfl

theorem configView_signalLost (link : LinkId) : configView (s.signalLost link) = configView s := by
  unfold State.signalLost
  cases link with
  | agent a => dsimp only; split <;> rfl
  | mgmt => dsimp only; split <;> rfl

theorem configView_syncArrives (f : RawFrame) : configView (s.syncArrives a f) = configView s := by
  unfold State.syncArrives State.goodSync
  split
  · exact configView_protocolError ..
  · dsimp only
    split <;> exact configView_renewLease ..

theorem configView_answerableArrives (k : AnswerableKind) (f : RawFrame) :
    configView (s.answerableArrives a k f) = configView s := by
  unfold State.answerableArrives
  split <;> rfl

theorem configView_closingArrives (k : ClosingKind) (f : RawFrame) :
    configView (s.closingArrives a k f) = configView s := by
  unfold State.closingArrives
  split <;> rfl

theorem configView_unknownArrives (f : RawFrame) : configView (s.unknownArrives a f) = configView s := by
  unfold State.unknownArrives
  split
  · rfl
  · exact configView_protocolError ..

theorem configView_crcFailure : configView (s.crcFailure a) = configView s := configView_modCounters ..

theorem configView_frameArrives (bytes : List Byte) : configView (s.frameArrives a bytes) = configView s := by
  unfold State.frameArrives State.arrivesInWaitSync State.arrivesInRun
  split
  · rfl
  · split
    · rfl
    · exact configView_crcFailure ..
    · split
      · exact configView_syncArrives ..
      · rfl
  · split
    · rfl
    · exact configView_crcFailure s a
    · split
      · exact configView_syncArrives ..
      · exact configView_answerableArrives ..
      · exact configView_closingArrives ..
      · exact configView_unknownArrives ..

theorem configView_leaveLane (choice : AgentSend) : configView (s.leaveLane a choice) = configView s := by
  cases choice with
  | reply r =>
    unfold State.leaveLane
    dsimp only
    split
    · exact configView_modCounters ..
    · rfl
  | _ => rfl

theorem configView_agentLinkSends : configView (s.agentLinkSends a) = configView s := by
  unfold State.agentLinkSends
  split
  · split
    · rfl
    · exact configView_leaveLane ..
  · rfl

/-! ## LI-M (sections 8.1 and 8.8) -/

theorem configView_mgmtSyncArrives (f : RawFrame) : configView (s.mgmtSyncArrives f) = configView s := by
  unfold State.mgmtSyncArrives State.mgmtGoodSync
  split
  · rfl
  · dsimp only
    split <;> rfl

theorem configView_commandArrives (k : CommandKind) (f : RawFrame) :
    configView (s.commandArrives k f) = configView s := by
  unfold State.commandArrives
  split <;> rfl

theorem configView_mgmtUnknownArrives (f : RawFrame) : configView (s.mgmtUnknownArrives f) = configView s := by
  unfold State.mgmtUnknownArrives
  split <;> rfl

theorem configView_mgmtFrameArrives (bytes : List Byte) : configView (s.mgmtFrameArrives bytes) = configView s := by
  unfold State.mgmtFrameArrives State.mgmtArrivesInWaitSync State.mgmtArrivesInRun
  split
  · rfl
  · split
    · rfl
    · rfl
    · split
      · exact configView_mgmtSyncArrives ..
      · rfl
  · split
    · rfl
    · rfl
    · split
      · exact configView_mgmtSyncArrives ..
      · exact configView_commandArrives ..
      · exact configView_mgmtUnknownArrives ..

theorem configView_reportAckTaken : configView s.reportAckTaken = configView s := by
  unfold State.reportAckTaken
  split
  · rfl
  · split
    · dsimp only
      split <;> rfl
    · rfl

theorem configView_leaveMgmtLane (choice : MgmtSend) : configView (s.leaveMgmtLane choice) = configView s := by
  cases choice with
  | reply r =>
    unfold State.leaveMgmtLane
    dsimp only
    split <;> rfl
  | _ => rfl

theorem configView_mgmtLinkSends : configView s.mgmtLinkSends = configView s := by
  unfold State.mgmtLinkSends
  split
  · split
    · rfl
    · exact configView_leaveMgmtLane ..
  · rfl

/-! ## Recall Engine and Wait List (Chapters 2 and 3) -/

theorem configView_reevaluate : configView s.reevaluate = configView s :=
  configView_of_walk (walkFrom_walkEffect ..)

theorem configView_recallConflicts (c : Claim) : configView (s.recallConflicts c) = configView s :=
  configView_of_walk (recallConflicts_walkEffect ..)

theorem configView_dropConvert (slot : Nat) (code : RefusalCode) :
    configView (s.dropConvert a slot code) = configView s := configView_of_walk (dropConvert_walkEffect ..)

theorem configView_appendEntry (c : Claim) (tag epoch maxWait : Nat) (o : Obstacle) :
    configView (s.appendEntry c tag epoch maxWait o) = configView s := by
  unfold State.appendEntry
  dsimp only
  split
  · exact configView_recallConflicts ..
  · rfl

theorem configView_admission (c : Claim) (tag epoch maxWait : Nat) :
    configView (s.admission c tag epoch maxWait) = configView s := by
  cases hobstacle : s.obstacle s.waitList c with
  | none =>
    rw [admission_granted hobstacle]
    exact configView_of_walk (grant_walkEffect ..)
  | some o =>
    rw [admission_blocked hobstacle]
    split
    · rfl
    · split
      · rfl
      · split
        · rfl
        · exact configView_appendEntry ..

theorem configView_refuseEntries (l : List WaitEntry) (code : RefusalCode) :
    configView (s.refuseEntries l code) = configView s :=
  configView_foldl (f := fun t (e : WaitEntry) => t.refuse e.agent e.tag code) (fun _ _ => rfl) l s

theorem configView_expelEntry (tag : Nat) (code : RefusalCode) :
    configView (s.expelEntry a tag code) = configView s := configView_reevaluate _

/-! ## Sweep Engine (Chapter 5) -/

theorem configView_endSweep (status : SweepEnd) : configView (s.endSweep status) = configView s := by
  unfold State.endSweep
  split <;> rfl

theorem configView_completeIfDrained : configView s.completeIfDrained = configView s := by
  unfold State.completeIfDrained
  split
  · split
    · exact configView_endSweep ..
    · rfl
  · rfl

theorem configView_resolvePending (how : Resolution) : configView (s.resolvePending how) = configView s :=
  configView_completeIfDrained _

theorem configView_sweepRecall (slot : Nat) (wanted : Wanted) :
    configView (s.sweepRecall slot wanted) = configView s := by
  have hasked := configView_of_walk (requestRecall_walkEffect s slot wanted .sweep)
  exact hasked

theorem configView_sweepReach (w : Sweep) (r : GrantRecord) : configView (s.sweepReach w r) = configView s := by
  unfold State.sweepReach State.sweepAction
  dsimp only
  split
  · split
    · exact configView_sweepRecall ..
    · exact configView_sweepRecall ..
    · rfl
    · rfl
  · rfl

theorem configView_walkAfterStep {t : State} (h : configView t = configView s) :
    configView (s.walkAfterStep t) = configView s := by
  unfold State.walkAfterStep
  split
  · exact (configView_reevaluate t).trans h
  · exact h

theorem configView_sweepOnce : configView s.sweepOnce = configView s := by
  have hfinished : configView s.finishScan = configView s := configView_completeIfDrained _
  unfold State.sweepOnce
  split
  · rfl
  · split
    · rfl
    · split
      · exact configView_walkAfterStep s hfinished
      · split
        · exact configView_walkAfterStep s (configView_sweepReach ..)
        · exact configView_walkAfterStep s hfinished

/-! ## Removal and the end of a session (R21, R83, R85) -/

theorem configView_detachRecord (cause : RemovalCause) (r : GrantRecord) :
    configView (s.detachRecord cause r) = configView s := by
  rw [detachRecord_eq]
  rfl

theorem configView_removeRecords {cause : RemovalCause} (hc : cause ≠ .release) :
    configView (s.removeRecords cause a) = configView s := by
  rw [removeRecords_eq_foldl s hc]
  exact configView_foldl (fun _ _ => configView_detachRecord ..) _ s

theorem configView_endSession : configView (s.endSession a) = configView s :=
  (configView_removeRecords _ a (by simp)).trans (configView_refuseEntries ..)

/-! ## Answerable frames -/

theorem configView_startSession (tag window : Nat) :
    configView (s.startSession a tag window) = configView s := by
  have hstarted : configView (s.modSession a fun x => { x with
      state := .active (s.timeBase + s.params.leasePeriod), epoch := nextEpoch (s.session a).epoch,
      recallWindow := window }) = configView s := configView_modSession fun _ => rfl
  exact hstarted

theorem configView_handleJoin (f : Frame AnswerableKind) : configView (State.handleJoin a s f) = configView s := by
  unfold State.handleJoin State.acceptJoin
  split
  · rfl
  · split
    · exact ((configView_reevaluate _).trans (configView_startSession ..)).trans (configView_endSession ..)
    · exact configView_startSession ..

theorem configView_handleAcquire (f : Frame AnswerableKind) :
    configView (State.handleAcquire a s f) = configView s := by
  unfold State.handleAcquire
  split
  · rfl
  · split
    · rfl
    · split
      · rfl
      · exact configView_admission ..

theorem configView_convertUp (tag epoch maxWait : Nat) (r : GrantRecord) :
    configView (s.convertUp a tag epoch maxWait r) = configView s := by
  unfold State.convertUp
  split
  · rfl
  · exact configView_admission ..

theorem configView_handleQuery (f : Frame AnswerableKind) : configView (State.handleQuery a s f) = configView s := by
  unfold State.handleQuery
  split
  · rfl
  · split
    · rfl
    · split
      · rfl
      · split <;> rfl

theorem configView_handleLeave (f : Frame AnswerableKind) : configView (State.handleLeave a s f) = configView s := by
  unfold State.handleLeave State.leaveSession
  split
  · rfl
  · split
    · rfl
    · have hended : configView (((s.endSession a).placeReply a f.tag .left).modSession a
          fun x => { x with state := .offline }) = configView (s.endSession a) := configView_modSession fun _ => rfl
      exact ((configView_reevaluate _).trans hended).trans (configView_endSession ..)

theorem configView_handleCancel (f : Frame ClosingKind) : configView (State.handleCancel a s f) = configView s := by
  unfold State.handleCancel
  split
  · exact configView_lateFrame ..
  · exact configView_expelEntry ..

theorem configView_waitDeadlinePasses (tag : Nat) : configView (s.waitDeadlinePasses a tag) = configView s := by
  unfold State.waitDeadlinePasses
  split
  · rfl
  · split
    · exact configView_expelEntry ..
    · rfl

end

end Sys2Proof.Laws
end

section
/-!
SUPPORT. The laws of the configuration (`ParamLaw`, `ChurnLaw`) against the operations that write what these laws read, and
so against every command.
-/

namespace Sys2Proof.Laws

-- One lemma at a time: checked at once, so many would start more threads than the memory limit of check.sh allows.
set_option Elab.async false

open Sys2Proof.Machine Sys2Proof.Safety

/-! ## The laws, group by group and agent by agent -/

/-- A group's C lies in 1 to W and its W in 1 to 64 (R118). -/
def GroupSound (x : GroupSettings) : Prop := 1 ≤ x.threshold ∧ x.threshold ≤ x.window ∧ x.window ≤ 64

/-- Agent `a`'s window is empty in `t`, or as long as in `s` under settings that are not tighter, or within W of a directory
that is configured (R121, R124, R125). -/
def WindowFits (s t : State) (a : AgentId) : Prop :=
  (t.member a).window = [] ∨
  ((t.member a).window = (s.member a).window ∧ (s.settings a).window ≤ (t.settings a).window) ∨
  (t.management.state ≠ .unconfigured ∧ (t.member a).window.length ≤ (t.settings a).window)

section
variable {s t u : State}

theorem windowFits_of_view (h : configView t = configView s) (a : AgentId) : WindowFits s t a :=
  .inr (.inl ⟨congrArg (fun v => v.windowOf a) h, (congrArg GroupSettings.window (settings_of_view h a)).ge⟩)

/-- `t` keeps the churn law of `s` where no directory becomes UNCONFIGURED, settings are in range and windows fit. -/
theorem churnLaw_of_fits (hs : ChurnLaw s)
    (hstate : t.management.state = .unconfigured → s.management.state = .unconfigured)
    (hgroups : ∀ g, GroupSound (t.churn.groups.get g)) (hfits : ∀ a, WindowFits s t a) : ChurnLaw t := by
  obtain ⟨-, hbounded, hempty⟩ := hs
  refine ⟨hgroups, fun a => ?_, fun ht a => ?_⟩
  · rcases hfits a with hnil | ⟨hsame, hlooser⟩ | ⟨-, hwithin⟩
    · rw [hnil]
      exact Nat.zero_le _
    · rw [hsame]
      exact (hbounded a).trans hlooser
    · exact hwithin
  · rcases hfits a with hnil | ⟨hsame, -⟩ | ⟨hconfigured, -⟩
    · exact hnil
    · rw [hsame]
      exact hempty (hstate ht) a
    · exact absurd ht hconfigured

theorem paramLaw_congr (h : t.management = s.management) (hs : ParamLaw s) : ParamLaw t := by
  unfold ParamLaw State.params
  rw [h]
  exact hs

/-! ## Parts of a happening -/

/-- A part of a happening that keeps both laws of the configuration. -/
structure KeepsConfig (s t : State) : Prop where
  params : ParamLaw s → ParamLaw t
  churn : ChurnLaw s → ChurnLaw t

theorem KeepsConfig.refl (s : State) : KeepsConfig s s := ⟨id, id⟩

theorem KeepsConfig.trans (h : KeepsConfig s t) (k : KeepsConfig t u) : KeepsConfig s u :=
  ⟨fun hs => k.params (h.params hs), fun hs => k.churn (h.churn hs)⟩

/-- The parameters stay, settings stay in range and windows fit. -/
theorem KeepsConfig.of_churn (hmanagement : t.management = s.management := by rfl)
    (hgroups : ChurnLaw s → ∀ g, GroupSound (t.churn.groups.get g))
    (hfits : ChurnLaw s → ∀ a, WindowFits s t a) : KeepsConfig s t where
  params := paramLaw_congr hmanagement
  churn hs := churnLaw_of_fits hs (fun ht => hmanagement ▸ ht) (hgroups hs) (hfits hs)

/-- Parameters, settings and groups stay, and windows fit. -/
theorem KeepsConfig.of_windows (hmanagement : t.management = s.management := by rfl)
    (hgroups : t.churn.groups = s.churn.groups := by rfl) (hfits : ChurnLaw s → ∀ a, WindowFits s t a) :
    KeepsConfig s t :=
  .of_churn hmanagement (fun hs g => hgroups ▸ hs.1 g) hfits

/-- Nothing changes of what the laws read. -/
theorem KeepsConfig.of_view (h : configView t = configView s := by rfl) : KeepsConfig s t :=
  .of_windows (management_of_view h) (congrArg ConfigView.groups h) fun _ => windowFits_of_view h

end

/-! ## Churn Monitor (Chapter 6) -/

section
variable {s : State}

/-- Agent `a`'s window is cleared (R124, R125, R127). -/
theorem clearedMember_keepsConfig (a : AgentId) {f : ChurnMember → ChurnMember} (h : ∀ m, (f m).window = []) :
    KeepsConfig s (s.modMember a f) := by
  refine .of_windows (hfits := fun _ b => ?_)
  by_cases hb : b = a
  · subst hb
    exact .inl (by rw [State.modMember_member_self, h])
  · exact .inr (.inl ⟨by rw [State.modMember_member, if_neg hb], le_refl _⟩)

/-- A window within W with an outcome appended stays within W (R121). -/
theorem length_windowWith {a : AgentId} (h : (s.member a).window.length ≤ (s.settings a).window) (o : ChurnOutcome) :
    (windowWith s a o).length ≤ (s.settings a).window := by
  unfold windowWith
  dsimp only
  split
  · assumption
  · rw [List.length_tail, List.length_append, List.length_singleton]
    exact h

theorem churned_member (s : State) (a b : AgentId) (o : ChurnOutcome) (henable : (s.settings a).enable = true) :
    ((churned s a o).member b).window = if b = a then windowWith s a o else (s.member b).window := by
  unfold churned State.member
  simp only [henable, Bool.true_eq_false, if_false, PerAgent.get_set]
  split <;> rfl

/-- An outcome is handed over while the directory is configured (R120, R121). -/
theorem recordOutcome_keepsConfig (hm : s.management.state ≠ .unconfigured) (a : AgentId) (o : ChurnOutcome) :
    KeepsConfig s (s.recordOutcome a o) := by
  rw [recordOutcome_eq]
  cases henable : (s.settings a).enable with
  | false =>
    have hsame : churned s a o = s := if_pos henable
    rw [hsame]
    exact .refl s
  | true =>
    have hwindow := fun b => churned_member s a b o henable
    have hmanagement : (churned s a o).management = s.management := by unfold churned; split <;> rfl
    have hgroups : (churned s a o).churn.groups = s.churn.groups := by unfold churned; split <;> rfl
    have hsettings : ∀ b, (churned s a o).settings b = s.settings b := fun b => by unfold churned; split <;> rfl
    refine .of_windows hmanagement hgroups fun ⟨_, hbounded, _⟩ b => ?_
    unfold WindowFits
    rw [hwindow, hsettings, hmanagement]
    split
    · rename_i hb
      subst hb
      exact .inr (.inr ⟨hm, length_windowWith (hbounded b) o⟩)
    · exact .inr (.inl ⟨rfl, le_refl _⟩)

/-- From `s` to `t` the windows of group `g`'s members among some agents are cleared, and nothing else that the laws read
changes (R124). -/
structure MembersCleared (g : GroupId) (l : List AgentId) (s t : State) : Prop where
  management : t.management = s.management
  groups : t.churn.groups = s.churn.groups
  sessions : t.sessions = s.sessions
  windows : ∀ b, (t.member b).window = if b ∈ l ∧ (s.session b).group = g then [] else (s.member b).window

theorem foldl_membersCleared (g : GroupId) : ∀ (l : List AgentId) (s : State), MembersCleared g l s
    (l.foldl (fun t a => if (t.session a).group = g then t.clearWindow a else t) s)
  | [], _ => ⟨rfl, rfl, rfl, fun _ => by simp⟩
  | a :: l, s => by
    obtain ⟨hmanagement, hgroups, hsessions, hwindows⟩ :=
      foldl_membersCleared g l (if (s.session a).group = g then s.clearWindow a else s)
    refine ⟨hmanagement.trans ?_, hgroups.trans ?_, hsessions.trans ?_, fun b => (hwindows b).trans ?_⟩
    · split <;> rfl
    · split <;> rfl
    · split <;> rfl
    · by_cases hb : b = a
      · subst hb
        by_cases hgroup : (s.session b).group = g
        · simp [hgroup, State.clearWindow]
        · simp [hgroup]
      · by_cases hgroup : (s.session a).group = g
        · simp [hgroup, hb, State.clearWindow, State.modMember_member]
        · simp [hgroup, hb]

theorem clearGroupWindows_membersCleared (s : State) (g : GroupId) :
    MembersCleared g allAgents s (s.clearGroupWindows g) := foldl_membersCleared g allAgents s

/-! ## Removal, downgrade and fencing (R21, R23, R93) -/

theorem releaseRecord_keepsConfig (hm : s.management.state ≠ .unconfigured) (r : GrantRecord) :
    KeepsConfig s (s.removeRecord .release r) := by
  have hdetached := configView_detachRecord s .release r
  have hconfigured : (s.detachRecord .release r).management.state ≠ .unconfigured := management_of_view hdetached ▸ hm
  exact ((KeepsConfig.of_view hdetached).trans (recordOutcome_keepsConfig hconfigured ..)).trans
    (.of_view (configView_dropConvert ..))

theorem downgradeRecord_keepsConfig (hm : s.management.state ≠ .unconfigured) (r : GrantRecord) :
    KeepsConfig s (s.downgradeRecord r) := by
  unfold State.downgradeRecord
  extract_lets satisfied leavesPending s1 s2 s3
  have h2 : configView s2 = configView s := by
    unfold s2
    split <;> rfl
  have h3 : configView s3 = configView s := by
    unfold s3
    split
    · exact (configView_resolvePending ..).trans h2
    · exact h2
  split
  · have hconfigured : s3.management.state ≠ .unconfigured := management_of_view h3 ▸ hm
    exact (KeepsConfig.of_view h3).trans (recordOutcome_keepsConfig hconfigured ..)
  · exact .of_view h3

theorem fence_keepsConfig (s : State) (a : AgentId) (cause : FenceCause) : KeepsConfig s (s.fence a cause) := by
  unfold State.fence State.fenceSteps
  extract_lets epoch s1 s2 s3 s4 s5 s6 s7 s8
  have h3 : configView s3 = configView s := configView_removeRecords s2 a (by simp)
  have h5 : configView s5 = configView s4 := configView_modSession fun _ => rfl
  have h6 : KeepsConfig s s6 := (KeepsConfig.of_view (h5.trans h3)).trans (clearedMember_keepsConfig a fun _ => rfl)
  exact h6.trans (.of_view (configView_reevaluate _))

/-! ## Answerable and closing frames -/

theorem onAnswerable_keepsConfig {a : AgentId} {act : State → Frame AnswerableKind → State}
    (h : ∀ t f, KeepsConfig t (act t f)) (s : State) (k : AnswerableKind) : KeepsConfig s (s.onAnswerable a k act) := by
  rcases onAnswerable_cases s a k act with ⟨-, hidle⟩ | ⟨f, rest, -, htaken⟩
  · rw [hidle]
    exact .refl s
  · rw [htaken]
    have htaking : configView (s.afterTakingAnswerable a f.epoch) = configView s := configView_renewLease ..
    exact (KeepsConfig.of_view htaking).trans (h ..)

/-- A request that passes the session checks finds a directory that is configured (R30). -/
theorem configured_of_sessionCheck {a : AgentId} {epoch : Nat} (h : s.sessionCheck a epoch = none) :
    s.management.state ≠ .unconfigured := fun hm => by
  rw [sessionCheck_notReady hm] at h
  cases h

theorem convertSubject_keepsConfig (hm : s.management.state ≠ .unconfigured) (a : AgentId) (tag epoch : Nat)
    (q : ConvertFields) : KeepsConfig s (s.convertSubject a tag epoch q) := by
  unfold State.convertSubject
  split
  · exact .of_view
  · split
    · exact .of_view
    · split
      · exact .of_view
      · split
        · exact (downgradeRecord_keepsConfig hm _).trans (.of_view (configView_reevaluate _))
        · exact .of_view (configView_convertUp ..)

theorem handleConvert_keepsConfig (a : AgentId) (s : State) (f : Frame AnswerableKind) :
    KeepsConfig s (State.handleConvert a s f) := by
  unfold State.handleConvert
  split
  · exact .of_view
  · rename_i hcheck
    split
    · exact .of_view
    · split
      · exact convertSubject_keepsConfig (configured_of_sessionCheck hcheck) ..
      · exact .of_view

/-- The rule of a closing kind acts only while the directory is configured (R31). -/
theorem onClosing_keepsConfig {a : AgentId} {act : State → Frame ClosingKind → State}
    (h : ∀ t f, t.management.state ≠ .unconfigured → KeepsConfig t (act t f)) (s : State) (k : ClosingKind) :
    KeepsConfig s (s.onClosing a k act) := by
  rcases onClosing_cases s a k act with ⟨-, hidle⟩ | ⟨f, rest, -, htaken⟩
  · rw [hidle]
    exact .refl s
  · rw [htaken]
    have htaking : configView (s.afterTakingClosing a f.epoch) = configView s := configView_renewLease ..
    refine (KeepsConfig.of_view htaking).trans ?_
    unfold State.closingChecks
    split
    · exact .of_view (configView_lateFrame ..)
    · rename_i hm
      split
      · exact .of_view (configView_lateFrame ..)
      · exact .of_view (configView_lateFrame ..)
      · split
        · exact .of_view (configView_protocolError ..)
        · split
          · exact .of_view (configView_protocolError ..)
          · exact h _ f hm

theorem handleRelease_keepsConfig (a : AgentId) (s : State) (f : Frame ClosingKind)
    (hm : s.management.state ≠ .unconfigured) : KeepsConfig s (State.handleRelease a s f) := by
  unfold State.handleRelease
  split
  · exact .of_view (configView_protocolError ..)
  · exact (releaseRecord_keepsConfig hm _).trans (.of_view (configView_reevaluate _))

theorem handleDowngrade_keepsConfig (a : AgentId) (s : State) (f : Frame ClosingKind)
    (hm : s.management.state ≠ .unconfigured) : KeepsConfig s (State.handleDowngrade a s f) := by
  unfold State.handleDowngrade
  split
  · exact .of_view (configView_protocolError ..)
  · split
    · exact .of_view (configView_lateFrame ..)
    · exact (downgradeRecord_keepsConfig hm _).trans (.of_view (configView_reevaluate _))

/-! ## Deadlines that pass (R66, R89) -/

theorem recallDeadlinePasses_keepsConfig (s : State) (slot : Nat) : KeepsConfig s (s.recallDeadlinePasses slot) := by
  unfold State.recallDeadlinePasses
  split
  · exact .refl s
  · split
    · exact .refl s
    · split
      · split
        · exact .of_view
        · exact fence_keepsConfig ..
      · exact .refl s

theorem leaseDeadlinePasses_keepsConfig (s : State) (a : AgentId) : KeepsConfig s (s.leaseDeadlinePasses a) := by
  unfold State.leaseDeadlinePasses
  split
  · split
    · exact fence_keepsConfig ..
    · exact .refl s
  · exact .refl s

/-! ## Management commands (Chapter 8) -/

/-- What a management command comes to keeps the laws of the configuration. -/
abbrev AnswerKeepsConfig (s : State) : Answer → Prop := AnswerHolds (KeepsConfig s)

/-- An answer that changes nothing the laws of the configuration read. -/
theorem answerKeepsConfig_view {t : State} {result : MgmtResult} (h : configView t = configView s := by rfl) :
    AnswerKeepsConfig s (.done t result) := KeepsConfig.of_view h

theorem onCommand_keepsConfig {act : State → List Byte → Answer} (h : ∀ t body, AnswerKeepsConfig t (act t body))
    (s : State) (k : CommandKind) : KeepsConfig s (s.onCommand k act) := by
  rcases onCommand_cases s k act with ⟨-, hidle⟩ | ⟨f, rest, -, htaken⟩
  · rw [hidle]
    exact .refl s
  · rw [htaken]
    have hact := h s.afterTakingCommand f.body
    cases hanswer : act s.afterTakingCommand f.body with
    | refuse status => exact .of_view
    | done t result =>
      rw [hanswer] at hact
      have htaking : KeepsConfig s s.afterTakingCommand := .of_view
      have hdone : KeepsConfig s.afterTakingCommand t := hact
      exact (htaking.trans hdone).trans .of_view

theorem onAgent_keepsConfig {act : State → AgentId → Answer} (h : ∀ t a, AnswerKeepsConfig t (act t a)) (s : State)
    (body : List Byte) : AnswerKeepsConfig s (State.onAgent act s body) := by
  unfold State.onAgent
  split
  · trivial
  · split
    · trivial
    · exact h ..

/-! ### CONFIGURE (R162) -/

/-- The fields of an accepted CONFIGURE lie in their ranges (R162, R182). -/
theorem configureFields_sound {body : List Byte} {q : ConfigureFields} (h : configureFields body = some q) :
    leaseInRange q.params.leasePeriod = true ∧ recallTimeoutInRange q.params.recallTimeout = true ∧
    attemptLimitInRange q.params.attemptLimit = true ∧ volumeInRange q.params.volume = true ∧
    reportWindowInRange q.params.reportWindow = true ∧ ∀ g, GroupSound (q.groups.get g) := by
  have hgroup : ∀ o, (groupFields body o).inRange = true → GroupSound (groupFields body o).settings := fun o hrange => by
    obtain ⟨-, -, hmax, hpos, hle, -⟩ := (groupFields_inRange o).mp hrange
    exact ⟨hpos, hle, hmax⟩
  unfold configureFields at h
  dsimp only at h
  split at h
  · rename_i hrange
    obtain rfl := Option.some.inj h
    obtain ⟨-, hvolume, hlease, htimeout, hattempts, hwindow, -, hgroup0, hgroup1⟩ := hrange
    refine ⟨hlease, htimeout, hattempts, hvolume, hwindow, fun g => ?_⟩
    unfold PerGroup.get
    split
    · exact hgroup 23 hgroup0
    · exact hgroup 27 hgroup1
  · cases h

/-- Every window is empty before CONFIGURE, so it fits whatever settings CONFIGURE brings. -/
theorem runConfigure_keepsConfig (s : State) (body : List Byte) : AnswerKeepsConfig s (s.runConfigure body) := by
  unfold State.runConfigure
  refine answerHolds_unless fun hunconfigured => ?_
  have hstate : s.management.state = .unconfigured := not_not.mp hunconfigured
  split
  · trivial
  · rename_i q hq
    obtain ⟨hlease, htimeout, hattempts, hvolume, hwindow, hgroups⟩ := configureFields_sound hq
    refine ⟨fun _ => ⟨hlease, htimeout, hattempts, hvolume, hwindow⟩, fun hs => ?_⟩
    have ⟨_, _, hempty⟩ := hs
    exact churnLaw_of_fits hs (fun _ => hstate) hgroups fun a => .inl (hempty hstate a)

/-! ### SET_PARAM (R163, R164) -/

theorem groupSound_set {p : PerGroup GroupSettings} (hp : ∀ k, GroupSound (p.get k)) {g : GroupId} {x : GroupSettings}
    (hx : GroupSound x) (k : GroupId) : GroupSound ((p.set g x).get k) := by
  rw [PerGroup.get_set]
  split
  · exact hx
  · exact hp k

/-- The settings in force for an agent once a group's have changed (R119). -/
theorem setGroup_settings (s : State) (g : GroupId) (f : GroupSettings → GroupSettings) (a : AgentId) :
    (s.setGroup g f).settings a = if (s.session a).group = g then f (s.settings a) else s.settings a := by
  have hset : (s.setGroup g f).settings a =
      if (s.session a).group = g then f (s.churn.groups.get g) else s.settings a := PerGroup.get_set ..
  rw [hset]
  split
  · rename_i ha
    rw [← ha]
    rfl
  · rfl

/-- A group's settings change, and C and W stay. -/
theorem setGroup_keepsConfig (s : State) (g : GroupId) {f : GroupSettings → GroupSettings}
    (hthreshold : ∀ x, (f x).threshold = x.threshold) (hwindow : ∀ x, (f x).window = x.window) :
    KeepsConfig s (s.setGroup g f) := by
  refine .of_churn (hgroups := fun hs => groupSound_set hs.1 ?_) (hfits := fun _ a => .inr (.inl ⟨rfl, ?_⟩))
  · unfold GroupSound
    rw [hthreshold, hwindow]
    exact hs.1 g
  · rw [setGroup_settings]
    split
    · exact (hwindow _).ge
    · exact le_refl _

/-- A group's settings change, in range, and its members' windows are cleared (R124). -/
theorem MembersCleared.keepsConfig {t : State} {g : GroupId} {f : GroupSettings → GroupSettings}
    (ht : MembersCleared g allAgents (s.setGroup g f) t)
    (h : GroupSound (s.churn.groups.get g) → GroupSound (f (s.churn.groups.get g))) : KeepsConfig s t := by
  refine .of_churn ht.management (fun hs k => ?_) fun _ a => ?_
  · rw [ht.groups]
    exact groupSound_set hs.1 (h (hs.1 g)) k
  · by_cases ha : (s.session a).group = g
    · exact .inl ((ht.windows a).trans (if_pos ⟨mem_allAgents a, ha⟩))
    · have hsettings : t.settings a = s.settings a := by
        unfold State.settings State.session
        rw [ht.groups, ht.sessions]
        exact (setGroup_settings s g f a).trans (if_neg ha)
      exact .inr (.inl ⟨(ht.windows a).trans (if_neg fun hboth => ha hboth.2),
        (congrArg GroupSettings.window hsettings).ge⟩)

theorem setGroup_clear_keepsConfig (s : State) (g : GroupId) {f : GroupSettings → GroupSettings}
    (h : GroupSound (s.churn.groups.get g) → GroupSound (f (s.churn.groups.get g))) :
    KeepsConfig s ((s.setGroup g f).clearGroupWindows g) := (clearGroupWindows_membersCleared ..).keepsConfig h

theorem setGroupParam_keepsConfig (s : State) (identifier selector value : Nat) :
    AnswerKeepsConfig s (s.setGroupParam identifier selector value) := by
  unfold State.setGroupParam
  split
  · trivial
  · rename_i g _
    dsimp only
    split
    · exact answerHolds_if fun _ => setGroup_clear_keepsConfig s g id
    · exact answerHolds_if fun ⟨_, hmax, hle⟩ => setGroup_clear_keepsConfig s g fun ⟨hpos, _, _⟩ => ⟨hpos, hle, hmax⟩
    · exact answerHolds_if fun ⟨hpos, hle⟩ => setGroup_clear_keepsConfig s g fun ⟨_, _, hmax⟩ => ⟨hpos, hle, hmax⟩
    · exact answerHolds_if fun _ => setGroup_keepsConfig s g (fun _ => rfl) fun _ => rfl

/-- An agent moves to another group, and its window is cleared (R125). -/
theorem setAgentGroup_keepsConfig (s : State) (selector value : Nat) :
    AnswerKeepsConfig s (s.setAgentGroup selector value) := by
  unfold State.setAgentGroup
  split
  · trivial
  · rename_i a _
    split
    · trivial
    · rename_i g _
      have hmoves : KeepsConfig s ((s.modSession a fun x => { x with group := g }).clearWindow a) := by
        refine .of_windows (hfits := fun _ b => ?_)
        by_cases hb : b = a
        · subst hb
          exact .inl (by rw [State.clearWindow, State.modMember_member_self])
        · refine .inr (.inl ⟨?_, ?_⟩)
          · rw [State.clearWindow, State.modMember_member, if_neg hb]
            rfl
          · unfold State.settings
            rw [State.clearWindow, State.modMember_session, State.modSession_session, if_neg hb]
            exact le_refl _
      exact hmoves

/-- Parameters in range, in a directory whose state stays (section 8.4). -/
theorem setParams_keepsConfig {f : Params → Params} (h : ParamLaw s → ParamLaw (s.setParams f)) :
    KeepsConfig s (s.setParams f) :=
  ⟨h, fun hs => churnLaw_of_fits hs id hs.1 fun _ => .inr (.inl ⟨rfl, le_refl _⟩)⟩

theorem setOneParam_keepsConfig (hm : s.management.state ≠ .unconfigured) (q : SetParamFields) :
    AnswerKeepsConfig s (s.setOneParam q) := by
  unfold State.setOneParam
  split
  · refine answerHolds_unless fun hvolume => answerHolds_unless fun _ => setParams_keepsConfig fun hs => ?_
    obtain ⟨hlease, htimeout, hattempts, hrest⟩ := hs
    have hrange : volumeInRange q.value = true := by simpa using hvolume
    rw [if_neg hm] at hrest
    exact ⟨hlease, htimeout, hattempts, (if_neg hm).mpr ⟨hrange, hrest.2⟩⟩
  · exact answerHolds_if fun hlease => setParams_keepsConfig fun ⟨_, hrest⟩ => ⟨hlease, hrest⟩
  · exact answerHolds_if fun htimeout => setParams_keepsConfig fun ⟨hlease, _, hrest⟩ => ⟨hlease, htimeout, hrest⟩
  · exact answerHolds_if fun hattempts => setParams_keepsConfig fun ⟨hlease, htimeout, _, hrest⟩ =>
      ⟨hlease, htimeout, hattempts, hrest⟩
  · exact setGroupParam_keepsConfig ..
  · exact setGroupParam_keepsConfig ..
  · exact setGroupParam_keepsConfig ..
  · exact setGroupParam_keepsConfig ..
  · exact setAgentGroup_keepsConfig ..
  · trivial

theorem runSetParam_keepsConfig (s : State) (body : List Byte) : AnswerKeepsConfig s (s.runSetParam body) := by
  unfold State.runSetParam
  refine answerHolds_unless fun hm => ?_
  split
  · trivial
  · exact setOneParam_keepsConfig hm ..

/-! ### The other commands -/

theorem runAdmit_keepsConfig (s : State) (a : AgentId) : AnswerKeepsConfig s (s.runAdmit a) :=
  answerKeepsConfig_view (configView_modSession fun _ => rfl)

theorem runEvict_keepsConfig (s : State) (a : AgentId) : AnswerKeepsConfig s (s.runEvict a) := by
  have hcleared : KeepsConfig s (s.modSession a fun x => { x with admitFlag := false }) :=
    .of_view (configView_modSession fun _ => rfl)
  unfold State.runEvict
  dsimp only
  split
  · exact hcleared.trans (fence_keepsConfig ..)
  · exact hcleared

theorem runAckChurn_keepsConfig (s : State) (a : AgentId) : AnswerKeepsConfig s (s.runAckChurn a) :=
  answerKeepsConfig_view (configView_modMember fun _ => rfl)

/-- The directory moves between RUNNING and PAUSED (R161). -/
theorem setDirectory_keepsConfig {d : DirectoryState} (hm : s.management.state ≠ .unconfigured)
    (hd : d ≠ .unconfigured) : KeepsConfig s (s.setDirectory d) where
  params := fun ⟨hlease, htimeout, hattempts, hrest⟩ => by
    rw [if_neg hm] at hrest
    exact ⟨hlease, htimeout, hattempts, (if_neg hd).mpr hrest⟩
  churn hs := churnLaw_of_fits hs (fun ht => absurd ht hd) hs.1 fun _ => .inr (.inl ⟨rfl, le_refl _⟩)

theorem runPause_keepsConfig (s : State) (body : List Byte) : AnswerKeepsConfig s (s.runPause body) :=
  answerHolds_unless fun hrunning => answerHolds_unless fun _ =>
    setDirectory_keepsConfig (by rw [not_not.mp hrunning]; nofun) (by nofun)

theorem runResume_keepsConfig (s : State) (body : List Byte) : AnswerKeepsConfig s (s.runResume body) :=
  answerHolds_unless fun hpaused => answerHolds_unless fun _ =>
    setDirectory_keepsConfig (by rw [not_not.mp hpaused]; nofun) (by nofun)

theorem runSweepStart_keepsConfig (s : State) (body : List Byte) : AnswerKeepsConfig s (s.runSweepStart body) := by
  unfold State.runSweepStart
  refine answerHolds_unless fun _ => ?_
  split
  · trivial
  · refine answerHolds_unless fun _ => ?_
    split
    · trivial
    · exact answerHolds_unless fun _ => answerHolds_unless fun _ => answerKeepsConfig_view

theorem runSweepAbort_keepsConfig (s : State) (body : List Byte) : AnswerKeepsConfig s (s.runSweepAbort body) :=
  answerHolds_unless fun _ => answerHolds_unless fun _ =>
    answerKeepsConfig_view ((configView_reevaluate _).trans (configView_endSweep ..))

theorem runQueryExtent_keepsConfig (s : State) (body : List Byte) : AnswerKeepsConfig s (s.runQueryExtent body) := by
  unfold State.runQueryExtent
  refine answerHolds_unless fun _ => ?_
  split
  · trivial
  · exact answerHolds_unless fun _ => answerKeepsConfig_view

theorem runQueryAgent_keepsConfig (s : State) (a : AgentId) : AnswerKeepsConfig s (s.runQueryAgent a) :=
  answerKeepsConfig_view

theorem runReadCounters_keepsConfig (s : State) (body : List Byte) : AnswerKeepsConfig s (s.runReadCounters body) := by
  unfold State.runReadCounters State.readAgentCounters State.readMgmtCounters
  split
  · trivial
  · refine answerHolds_unless fun _ => answerHolds_unless fun _ => ?_
    split
    · refine answerKeepsConfig_view ?_
      split
      · exact configView_modCounters ..
      · rfl
    · exact answerKeepsConfig_view (by split <;> rfl)

theorem runReportResume_keepsConfig (s : State) (body : List Byte) : AnswerKeepsConfig s (s.runReportResume body) := by
  unfold State.runReportResume
  refine answerHolds_unless fun _ => ?_
  split
  · exact answerKeepsConfig_view
  · exact answerKeepsConfig_view

/-! ### RESET_DIRECTORY (R171) -/

theorem configView_resetSession (s : State) (a : AgentId) : configView (s.resetSession a) = configView s := by
  unfold State.resetSession
  split
  · exact configView_modSession (s := s) (a := a) (f := fun x => { x with state := .offline }) fun _ => rfl
  · rfl

/-- The reset clears every window and keeps settings, parameters and groups. -/
theorem resetTables_keepsConfig (s : State) : KeepsConfig s s.resetTables := by
  unfold State.resetTables
  extract_lets s1 s2 s3 s4 s5
  have h1 : configView s1 = configView s := configView_refuseEntries ..
  have h4 : configView s4 = configView s := (configView_endSweep s3 .aborted).trans h1
  have h5 : configView s5 = configView s := (configView_foldl configView_resetSession allAgents s4).trans h4
  clear_value s5
  have hcleared : KeepsConfig s5
      { s5 with churn := { s5.churn with members := .const { window := [], alarm := false } } } :=
    .of_windows (hfits := fun _ a => .inl (congrArg ChurnMember.window (PerAgent.get_const ..)))
  exact (KeepsConfig.of_view h5).trans hcleared

theorem runResetDirectory_keepsConfig (s : State) (body : List Byte) :
    AnswerKeepsConfig s (s.runResetDirectory body) :=
  answerHolds_unless fun _ => answerHolds_unless fun _ => resetTables_keepsConfig s

end

/-! ## Every command -/

/-- Every command but POWER_ON keeps both laws of the configuration. -/
theorem exec_keepsConfig {c : Instr} (hpower : c ≠ .powerOn) (s : State) :
    ∃ t, exec c s = .next t ∧ KeepsConfig s t := by
  cases c with
  | powerOn => exact absurd rfl hpower
  | millisecondTick => exact ⟨_, rfl, .of_view (by split <;> rfl)⟩
  | signalFound link => exact ⟨_, rfl, .of_view (configView_signalFound s link)⟩
  | signalLost link => exact ⟨_, rfl, .of_view (configView_signalLost s link)⟩
  | frameArrival a bytes => exact ⟨_, rfl, .of_view (configView_frameArrives s a bytes)⟩
  | join a => exact ⟨_, rfl, onAnswerable_keepsConfig (fun t f => .of_view (configView_handleJoin t a f)) s .join⟩
  | acquire a =>
    exact ⟨_, rfl, onAnswerable_keepsConfig (fun t f => .of_view (configView_handleAcquire t a f)) s .acquire⟩
  | convert a => exact ⟨_, rfl, onAnswerable_keepsConfig (handleConvert_keepsConfig a) s .convert⟩
  | query a => exact ⟨_, rfl, onAnswerable_keepsConfig (fun t f => .of_view (configView_handleQuery t a f)) s .query⟩
  | leave a => exact ⟨_, rfl, onAnswerable_keepsConfig (fun t f => .of_view (configView_handleLeave t a f)) s .leave⟩
  | release a => exact ⟨_, rfl, onClosing_keepsConfig (handleRelease_keepsConfig a) s .release⟩
  | downgrade a => exact ⟨_, rfl, onClosing_keepsConfig (handleDowngrade_keepsConfig a) s .downgrade⟩
  | cancel a => exact ⟨_, rfl, onClosing_keepsConfig (fun t f _ => .of_view (configView_handleCancel t a f)) s .cancel⟩
  | keepalive a => exact ⟨_, rfl, onClosing_keepsConfig (fun t _ _ => .refl t) s .keepalive⟩
  | waitDeadline a tag => exact ⟨_, rfl, .of_view (configView_waitDeadlinePasses s a tag)⟩
  | recallDeadline slot => exact ⟨_, rfl, recallDeadlinePasses_keepsConfig s slot⟩
  | sessionLeaseExpiry a => exact ⟨_, rfl, leaseDeadlinePasses_keepsConfig s a⟩
  | sweepStep => exact ⟨_, rfl, .of_view (configView_sweepOnce s)⟩
  | agentLinkSend a => exact ⟨_, rfl, .of_view (configView_agentLinkSends s a)⟩
  | endOfTransmission link =>
    cases link with
    | agent a => exact ⟨_, rfl, .of_view⟩
    | mgmt => exact ⟨_, rfl, .of_view⟩
  | mgmtFrameArrival bytes => exact ⟨_, rfl, .of_view (configView_mgmtFrameArrives s bytes)⟩
  | mgmtLinkSend => exact ⟨_, rfl, .of_view (configView_mgmtLinkSends s)⟩
  | reportAck => exact ⟨_, rfl, .of_view (configView_reportAckTaken s)⟩
  | configure => exact ⟨_, rfl, onCommand_keepsConfig runConfigure_keepsConfig s .configure⟩
  | setParam => exact ⟨_, rfl, onCommand_keepsConfig runSetParam_keepsConfig s .setParam⟩
  | admitAgent => exact ⟨_, rfl, onCommand_keepsConfig (onAgent_keepsConfig runAdmit_keepsConfig) s .admitAgent⟩
  | evict => exact ⟨_, rfl, onCommand_keepsConfig (onAgent_keepsConfig runEvict_keepsConfig) s .evict⟩
  | pause => exact ⟨_, rfl, onCommand_keepsConfig runPause_keepsConfig s .pause⟩
  | resume => exact ⟨_, rfl, onCommand_keepsConfig runResume_keepsConfig s .resume⟩
  | sweepStart => exact ⟨_, rfl, onCommand_keepsConfig runSweepStart_keepsConfig s .sweepStart⟩
  | sweepAbort => exact ⟨_, rfl, onCommand_keepsConfig runSweepAbort_keepsConfig s .sweepAbort⟩
  | queryExtent => exact ⟨_, rfl, onCommand_keepsConfig runQueryExtent_keepsConfig s .queryExtent⟩
  | queryAgent => exact ⟨_, rfl, onCommand_keepsConfig (onAgent_keepsConfig runQueryAgent_keepsConfig) s .queryAgent⟩
  | ackChurn => exact ⟨_, rfl, onCommand_keepsConfig (onAgent_keepsConfig runAckChurn_keepsConfig) s .ackChurn⟩
  | reportResume => exact ⟨_, rfl, onCommand_keepsConfig runReportResume_keepsConfig s .reportResume⟩
  | readCounters => exact ⟨_, rfl, onCommand_keepsConfig runReadCounters_keepsConfig s .readCounters⟩
  | resetDirectory => exact ⟨_, rfl, onCommand_keepsConfig runResetDirectory_keepsConfig s .resetDirectory⟩

/-- Every step keeps both laws of the configuration. -/
theorem step_keepsConfig {s t : State} (h : step s = .next t) : KeepsConfig s t := by
  unfold step at h
  split at h
  · obtain rfl := Host.Outcome.next.inj h
    exact .refl s
  · rename_i c rest _
    by_cases hpower : c = .powerOn
    · subst hpower
      obtain rfl := Host.Outcome.next.inj h
      exact ⟨fun _ => reset_paramLaw, fun _ => reset_churnLaw⟩
    · obtain ⟨u, hexec, hkeeps⟩ := exec_keepsConfig hpower { s with pending := rest }
      obtain rfl : u = t := Host.Outcome.next.inj (hexec.symm.trans h)
      have hqueue : KeepsConfig s { s with pending := rest } := .of_view
      exact hqueue.trans hkeeps

end Sys2Proof.Laws
end

section
/-!
The statement about parameters, churn settings and a directory in UNCONFIGURED.
-/

namespace Sys2Proof.Proofs

open Sys2Proof.Machine Sys2Proof.Safety Sys2Proof.Laws

/-- Settles O9: only commands that test their ranges write parameters and settings, a window that would no longer fit is
cleared with them, and UNCONFIGURED refuses all that would put something into a table or a window. -/
theorem configurationStaysSound : Obligations.ConfigurationStaysSound := by
  intro s t hstep
  obtain ⟨hparams, hchurn⟩ := step_keepsConfig hstep
  exact ⟨hparams, hchurn, step_unconfiguredLaw hstep⟩

end Sys2Proof.Proofs
end

section
/-!
SUPPORT. What signal, the end of a transmission and each frame that arrives on an agent link come to (R130 to R136, R142),
and what arrives on LI-M outside RUN (R154).
-/

namespace Sys2Proof.Laws

-- One lemma at a time: checked at once, so many would start more threads than the memory limit of check.sh allows.
set_option Elab.async false

open Sys2Proof.Machine Sys2Proof.Safety

section
variable {s : State} {a : AgentId}

/-! ## Shared operations as replacements of one part -/

theorem protocolError_eq (s : State) (a : AgentId) (kind : ProtocolErrorKind) (code : Nat) :
    s.protocolError a kind code = logged
      (withSession s a { s.session a with counters := { (s.session a).counters with
        protocolErrors := countUp (s.session a).counters.protocolErrors } })
      (.protocolError (.agent a) kind code) := rfl

theorem mgmtProtocolError_eq (s : State) (kind : ProtocolErrorKind) (code : Nat) :
    s.mgmtProtocolError kind code = logged
      { s with mgmtLink := { s.mgmtLink with counters := { s.mgmtLink.counters with
        protocolErrors := countUp s.mgmtLink.counters.protocolErrors } } }
      (.protocolError .mgmt kind code) := rfl

theorem crcFailure_eq (s : State) (a : AgentId) :
    s.crcFailure a = withSession s a { s.session a with counters := { (s.session a).counters with
      linkCrcErrors := countUp (s.session a).counters.linkCrcErrors } } := rfl

theorem mgmtCrcFailure_eq (s : State) :
    s.mgmtCrcFailure = { s with mgmtLink := { s.mgmtLink with counters := { s.mgmtLink.counters with
      linkCrcErrors := countUp s.mgmtLink.counters.linkCrcErrors } } } := rfl

theorem linkError_eq (s : State) (a : AgentId) (cause : LinkCause) :
    s.linkError a cause =
      logged (withLink s a (cutOff (s.link a) .waitSync)) (.linkState (.agent a) .waitSync cause) := rfl

/-- A frame's recall credit, and then a change of the rest of the link. -/
theorem addRecallCredit_modLink (s : State) (a : AgentId) (x : Nat) (f : AgentLink → AgentLink) :
    (s.addRecallCredit a x).modLink a f = withLink s a (f { s.link a with
      recallCredit := min ((s.link a).recallCredit + x) (s.session a).recallWindow }) := modLink_withLink ..

theorem renewLease_eq (s : State) (a : AgentId) (epoch : Nat) :
    s.renewLease a epoch = { s with
      sessions :=
        if isActive (s.session a).state = true ∧ epoch = (s.session a).epoch then s.sessions.set a (renewed s a)
        else s.sessions } := by
  split
  · rename_i hmatch
    obtain ⟨hactive, rfl⟩ := hmatch
    exact renewLease_active s a hactive
  · rename_i hother
    exact renewLease_other s a epoch fun hactive hepoch => hother ⟨hactive, hepoch⟩

/-! ## The class of a kind (R179) -/

theorem agentClass_sync {code : Nat} (h : code = kindSync) : agentClass code = .sync := if_pos h

/-! ## A frame that arrives on an agent link (R131 to R133) -/

variable {bytes : List Byte} {f : RawFrame}

theorem exec_frameArrival_down (h : (s.link a).linkState = .down) : exec (.frameArrival a bytes) s = .next s := by
  simp only [exec, execFrameArrival, State.frameArrives, h]

theorem exec_frameArrival_waitSync (h : (s.link a).linkState = .waitSync) :
    exec (.frameArrival a bytes) s = .next (s.arrivesInWaitSync a bytes) := by
  simp only [exec, execFrameArrival, State.frameArrives, h]

theorem exec_frameArrival_run (h : (s.link a).linkState = .run) :
    exec (.frameArrival a bytes) s = .next (s.arrivesInRun a bytes) := by
  simp only [exec, execFrameArrival, State.frameArrives, h]

/-! ### In RUN (R132) -/

theorem arrivesInRun_framingFault (h : checkFrame bytes = .framingFault) :
    s.arrivesInRun a bytes = s.linkError a .framingError := by
  simp only [State.arrivesInRun, h]

theorem arrivesInRun_crcFailure (h : checkFrame bytes = .crcFailure) :
    s.arrivesInRun a bytes = (s.crcFailure a).linkError a .crcError := by
  simp only [State.arrivesInRun, h]

theorem arrivesInRun_sync (h : checkFrame bytes = .wellFormed f) (hk : agentClass f.kind = .sync) :
    s.arrivesInRun a bytes = s.syncArrives a f := by
  simp only [State.arrivesInRun, h, hk]

theorem arrivesInRun_answerable {k : AnswerableKind} (h : checkFrame bytes = .wellFormed f)
    (hk : agentClass f.kind = .answerable k) : s.arrivesInRun a bytes = s.answerableArrives a k f := by
  simp only [State.arrivesInRun, h, hk]

theorem arrivesInRun_closing {k : ClosingKind} (h : checkFrame bytes = .wellFormed f)
    (hk : agentClass f.kind = .closing k) : s.arrivesInRun a bytes = s.closingArrives a k f := by
  simp only [State.arrivesInRun, h, hk]

theorem arrivesInRun_unknown (h : checkFrame bytes = .wellFormed f) (hk : agentClass f.kind = .unknown) :
    s.arrivesInRun a bytes = s.unknownArrives a f := by
  simp only [State.arrivesInRun, h, hk]

/-! ### Checks 5 to 7: credit, and the buffer (R135 to R137, R139) -/

theorem answerableArrives_overrun (k : AnswerableKind) (h : (s.link a).answerable.outstanding = 0) :
    s.answerableArrives a k f = s.linkError a .creditOverrun := if_pos h

theorem closingArrives_overrun (k : ClosingKind) (h : (s.link a).closing.outstanding = 0) :
    s.closingArrives a k f = s.linkError a .creditOverrun := if_pos h

theorem unknownArrives_overrun (h : (s.link a).closing.outstanding = 0) :
    s.unknownArrives a f = s.linkError a .creditOverrun := if_pos h

theorem answerableArrives_credit (k : AnswerableKind) (h : 0 < (s.link a).answerable.outstanding) :
    s.answerableArrives a k f = withLink s a { s.link a with
      answerable := (s.link a).answerable.buffer { kind := k, tag := f.tag, epoch := f.epoch, body := f.body }
      recallCredit := min ((s.link a).recallCredit + f.creditX) (s.session a).recallWindow } :=
  (if_neg h.ne').trans (addRecallCredit_modLink ..)

theorem closingArrives_credit (k : ClosingKind) (h : 0 < (s.link a).closing.outstanding) :
    s.closingArrives a k f = withLink s a { s.link a with
      closing := (s.link a).closing.buffer { kind := k, tag := f.tag, epoch := f.epoch, body := f.body }
      recallCredit := min ((s.link a).recallCredit + f.creditX) (s.session a).recallWindow } :=
  (if_neg h.ne').trans (addRecallCredit_modLink ..)

theorem unknownArrives_credit (h : 0 < (s.link a).closing.outstanding) :
    s.unknownArrives a f = (withLink s a { s.link a with
      closing := (s.link a).closing.discardArrival
      recallCredit := min ((s.link a).recallCredit + f.creditX) (s.session a).recallWindow }).protocolError a
        .unknownKind f.kind := by
  rw [State.unknownArrives, if_neg h.ne', addRecallCredit_modLink]

/-! ### In WAIT_SYNC (R133) -/

theorem arrivesInWaitSync_framingFault (h : checkFrame bytes = .framingFault) : s.arrivesInWaitSync a bytes = s := by
  simp only [State.arrivesInWaitSync, h]

theorem arrivesInWaitSync_crcFailure (h : checkFrame bytes = .crcFailure) :
    s.arrivesInWaitSync a bytes = s.crcFailure a := by
  simp only [State.arrivesInWaitSync, h]

theorem arrivesInWaitSync_sync (h : checkFrame bytes = .wellFormed f) (hk : f.kind = kindSync) :
    s.arrivesInWaitSync a bytes = s.syncArrives a f := by
  simp only [State.arrivesInWaitSync, h, if_pos hk]

theorem arrivesInWaitSync_other (h : checkFrame bytes = .wellFormed f) (hk : f.kind ≠ kindSync) :
    s.arrivesInWaitSync a bytes = s := by
  simp only [State.arrivesInWaitSync, h, if_neg hk]

/-! ### SYNC (R142, R143) -/

theorem syncArrives_badLength (h : f.body.length ≠ 1) : s.syncArrives a f = s.protocolError a .badSync kindSync :=
  if_pos h

theorem syncArrives_good (h : f.body.length = 1) :
    s.syncArrives a f = s.goodSync a f.epoch (field f.body 0 1) := if_neg (not_not.mpr h)

/-- A SYNC is acted on in WAIT_SYNC and in RUN alike. -/
theorem exec_frameArrival_sync (hstate : (s.link a).linkState ≠ .down) (h : checkFrame bytes = .wellFormed f)
    (hk : f.kind = kindSync) : exec (.frameArrival a bytes) s = .next (s.syncArrives a f) := by
  cases hl : (s.link a).linkState with
  | down => exact absurd hl hstate
  | waitSync => rw [exec_frameArrival_waitSync hl, arrivesInWaitSync_sync h hk]
  | run => rw [exec_frameArrival_run hl, arrivesInRun_sync h (agentClass_sync hk)]

/-- A link once a good SYNC has rebuilt it. -/
theorem synced_eq {l : AgentLink} (h : l.linkState ≠ .down) (recallWindow count : Nat) :
    l.synced recallWindow count =
      { linkState := .run
        answerable := l.answerable.rebuild Config.answerableCapacity
        closing := l.closing.rebuild Config.closingCapacity
        recallCredit := min count recallWindow
        replies := l.replies
        control := addSyncAck l.control (Config.answerableCapacity - l.answerable.frames.length)
          (Config.closingCapacity - l.closing.frames.length)
        transmitter := l.transmitter
        turn := if l.linkState = .waitSync then .reply else l.turn } := by
  unfold AgentLink.synced
  cases hl : l.linkState with
  | down => exact absurd hl h
  | waitSync => rfl
  | run =>
    rw [if_neg nofun, if_neg nofun, ← hl]
    rfl

theorem goodSync_eq (s : State) (a : AgentId) (epoch count : Nat) :
    s.goodSync a epoch count =
      { s with
        sessions :=
          if isActive (s.session a).state = true ∧ epoch = (s.session a).epoch then s.sessions.set a (renewed s a)
          else s.sessions
        reportQueue :=
          if (s.link a).linkState = .waitSync then s.reportQueue.append (.linkState (.agent a) .run .sync)
          else s.reportQueue
        agentLinks := s.agentLinks.set a ((s.link a).synced (s.session a).recallWindow count) } := by
  unfold State.goodSync
  dsimp only
  rw [renewLease_eq]
  by_cases hwait : (s.link a).linkState = .waitSync
  · rw [if_pos hwait, if_pos hwait]
    rfl
  · rw [if_neg hwait, if_neg hwait]
    rfl

/-! ## A frame that arrives on LI-M outside RUN (R154) -/

theorem exec_mgmtFrameArrival_down (h : s.mgmtLink.linkState = .down) :
    exec (.mgmtFrameArrival bytes) s = .next s := by
  simp only [exec, execMgmtFrameArrival, State.mgmtFrameArrives, h]

theorem exec_mgmtFrameArrival_waitSync (h : s.mgmtLink.linkState = .waitSync) :
    exec (.mgmtFrameArrival bytes) s = .next (s.mgmtArrivesInWaitSync bytes) := by
  simp only [exec, execMgmtFrameArrival, State.mgmtFrameArrives, h]

theorem mgmtArrivesInWaitSync_framingFault (h : checkFrame bytes = .framingFault) :
    s.mgmtArrivesInWaitSync bytes = s := by
  simp only [State.mgmtArrivesInWaitSync, h]

theorem mgmtArrivesInWaitSync_crcFailure (h : checkFrame bytes = .crcFailure) :
    s.mgmtArrivesInWaitSync bytes = s.mgmtCrcFailure := by
  simp only [State.mgmtArrivesInWaitSync, h]

theorem mgmtArrivesInWaitSync_sync (h : checkFrame bytes = .wellFormed f) (hk : f.kind = kindSync) :
    s.mgmtArrivesInWaitSync bytes = s.mgmtSyncArrives f := by
  simp only [State.mgmtArrivesInWaitSync, h, if_pos hk]

theorem mgmtArrivesInWaitSync_other (h : checkFrame bytes = .wellFormed f) (hk : f.kind ≠ kindSync) :
    s.mgmtArrivesInWaitSync bytes = s := by
  simp only [State.mgmtArrivesInWaitSync, h, if_neg hk]

theorem mgmtSyncArrives_badLength (h : f.body.length ≠ 1) :
    s.mgmtSyncArrives f = s.mgmtProtocolError .badSync kindSync := if_pos h

/-! ## Signal (R130, R131) -/

theorem signalFound_agent (h : (s.link a).linkState = .down) : s.signalFound (.agent a) =
    logged (withLink s a { s.link a with linkState := .waitSync })
      (.linkState (.agent a) .waitSync .signalFound) := if_pos h

theorem signalFound_mgmt (h : s.mgmtLink.linkState = .down) : s.signalFound .mgmt =
    logged { s with mgmtLink := { s.mgmtLink with linkState := .waitSync } }
      (.linkState .mgmt .waitSync .signalFound) := if_pos h

theorem signalLost_agent (h : (s.link a).linkState ≠ .down) : s.signalLost (.agent a) =
    logged (withLink s a (cutOff (s.link a) .down)) (.linkState (.agent a) .down .signalLost) := if_neg h

theorem signalLost_mgmt (h : s.mgmtLink.linkState ≠ .down) : s.signalLost .mgmt =
    logged { s with mgmtLink := mgmtCutOff s.mgmtLink .down } (.linkState .mgmt .down .signalLost) := if_neg h

end

end Sys2Proof.Laws
end

section
/-!
The statements about signal and about frames that arrive on an agent link.
-/

namespace Sys2Proof.Proofs

open Sys2Proof.Machine Sys2Proof.Safety Sys2Proof.Laws

/-- Settles O19: one case for each command and kind of link. -/
theorem signalMovesLinks : Obligations.SignalMovesLinks := fun _ _ =>
  ⟨fun hdown => congrArg Host.Outcome.next (signalFound_agent hdown),
    fun hup => congrArg Host.Outcome.next (signalLost_agent hup),
    fun hdown => congrArg Host.Outcome.next (signalFound_mgmt hdown),
    fun hup => congrArg Host.Outcome.next (signalLost_mgmt hup), rfl, rfl⟩

/-- Settles O20: the class of the frame's kind names the buffer, and the credit check passes. -/
theorem frameJoinsItsBuffer : Obligations.FrameJoinsItsBuffer := by
  intro s a bytes f hrun hcheck
  refine ⟨fun k hk hcredit => ?_, fun k hk hcredit => ?_⟩
  · rw [exec_frameArrival_run hrun, arrivesInRun_answerable hcheck hk, answerableArrives_credit k hcredit]
    rfl
  · rw [exec_frameArrival_run hrun, arrivesInRun_closing hcheck hk, closingArrives_credit k hcredit]
    rfl

/-- Settles O21: one case for each check of R132 that a frame fails in RUN. -/
theorem badFramesInRun : Obligations.BadFramesInRun := by
  intro s a bytes hrun cut x erring
  rw [exec_frameArrival_run hrun]
  refine ⟨fun hfault => ?_, fun hcrc => ?_, fun f hcheck => ⟨?_, fun hk hcredit => ?_, fun hk hbody => ?_⟩⟩
  · rw [arrivesInRun_framingFault hfault, linkError_eq]
  · rw [arrivesInRun_crcFailure hcrc, crcFailure_eq, linkError_eq]
    rfl
  · rintro (⟨⟨k, hk⟩, hnone⟩ | ⟨⟨k, hk⟩ | hk, hnone⟩)
    · rw [arrivesInRun_answerable hcheck hk, answerableArrives_overrun k hnone, linkError_eq]
    · rw [arrivesInRun_closing hcheck hk, closingArrives_overrun k hnone, linkError_eq]
    · rw [arrivesInRun_unknown hcheck hk, unknownArrives_overrun hnone, linkError_eq]
  · rw [arrivesInRun_unknown hcheck hk, unknownArrives_credit hcredit, protocolError_eq]
    rfl
  · rw [arrivesInRun_sync hcheck (agentClass_sync hk), syncArrives_badLength hbody, protocolError_eq]

/-- Settles O22: DOWN receives nothing, and in WAIT_SYNC only a CRC failure and a SYNC leave a trace. -/
theorem framesOutsideRun : Obligations.FramesOutsideRun := by
  intro s a bytes
  refine ⟨exec_frameArrival_down, exec_mgmtFrameArrival_down, fun hwait => ?_, fun hwait => ?_⟩
  · rw [exec_frameArrival_waitSync hwait]
    refine ⟨fun hfault => ?_, fun hcrc => ?_, fun f hcheck => ⟨fun hk => ?_, fun hk hbody => ?_⟩⟩
    · rw [arrivesInWaitSync_framingFault hfault]
    · rw [arrivesInWaitSync_crcFailure hcrc, crcFailure_eq]
    · rw [arrivesInWaitSync_other hcheck hk]
    · rw [arrivesInWaitSync_sync hcheck hk, syncArrives_badLength hbody, protocolError_eq]
  · rw [exec_mgmtFrameArrival_waitSync hwait]
    refine ⟨fun hfault => ?_, fun hcrc => ?_, fun f hcheck => ⟨fun hk => ?_, fun hk hbody => ?_⟩⟩
    · rw [mgmtArrivesInWaitSync_framingFault hfault]
    · rw [mgmtArrivesInWaitSync_crcFailure hcrc, mgmtCrcFailure_eq]
    · rw [mgmtArrivesInWaitSync_other hcheck hk]
    · rw [mgmtArrivesInWaitSync_sync hcheck hk, mgmtSyncArrives_badLength hbody, mgmtProtocolError_eq]

/-- Settles O23: the lease is renewed, the report appended and the link rebuilt, each part by its own equation. -/
theorem goodSyncRebuilds : Obligations.GoodSyncRebuilds := by
  intro s a bytes f hstate hcheck hk hbody l answerable closing entering
  rw [exec_frameArrival_sync hstate hcheck hk, syncArrives_good hbody, goodSync_eq, synced_eq hstate]
  rfl

end Sys2Proof.Proofs
end

section
/-!
SUPPORT. A report that is appended (R173, R174) and a NOTICE that joins a control lane (R144).
-/

namespace Sys2Proof.Laws

-- One lemma at a time: checked at once, so many would start more threads than the memory limit of check.sh allows.
set_option Elab.async false

open Sys2Proof.Machine Sys2Proof.Safety

/-! ## The rows of the table of R173 -/

section
variable {q : ReportQueue} (r : Report)

theorem append_accepting (hstate : q.suspended = false) (hroom : q.reports.length < Config.reportCapacity) :
    q.append r = { q with reports := q.reports ++ [r] } := by
  rw [ReportQueue.append, if_neg (Bool.not_eq_true _ ▸ hstate), if_pos hroom]

theorem append_overflow (hstate : q.suspended = false) (hfull : Config.reportCapacity ≤ q.reports.length) :
    q.append r = { q with marker := true, suspended := true, lost := 1 } := by
  rw [ReportQueue.append, if_neg (Bool.not_eq_true _ ▸ hstate), if_neg (Nat.not_lt.mpr hfull)]

theorem append_suspended (hstate : q.suspended = true) : q.append r = { q with lost := countUp q.lost } :=
  if_pos hstate

end

theorem countUp_below {n : Nat} (h : n < Config.counterMax) : countUp n = n + 1 := if_pos h

theorem countUp_stopped {n : Nat} (h : Config.counterMax ≤ n) : countUp n = n := if_neg (Nat.not_lt.mpr h)

/-! ## The lane of R144 -/

section
variable {lane : List ControlFrame} (kind : NoticeKind) (epoch : Nat)

theorem addNotice_room (h : lane.countP ControlFrame.isNotice < Config.noticeCapacity) :
    addNotice lane kind epoch = lane ++ [.notice kind epoch] := by
  rw [addNotice, if_neg (Nat.not_le.mpr h)]

/-- In a full lane the first NOTICE makes room. -/
theorem addNotice_full {before after : List ControlFrame} {oldest : ControlFrame}
    (hfull : Config.noticeCapacity ≤ (before ++ oldest :: after).countP ControlFrame.isNotice)
    (hbefore : ∀ c ∈ before, c.isNotice = false) (holdest : oldest.isNotice = true) :
    addNotice (before ++ oldest :: after) kind epoch = before ++ after ++ [.notice kind epoch] := by
  rw [addNotice, if_pos hfull, eraseP_split hbefore holdest]

end

end Sys2Proof.Laws
end

section
/-!
The statement about reports and notices that join.
-/

namespace Sys2Proof.Proofs

open Sys2Proof.Machine Sys2Proof.Safety Sys2Proof.Laws

/-- Settles O28: the rows of R173 and R174, and the two cases of R144. -/
theorem reportsAndNoticesJoin : Obligations.ReportsAndNoticesJoin := by
  refine ⟨fun q r => ⟨append_accepting r, append_overflow r, fun hstate hbelow => ?_, fun hstate hstopped => ?_⟩,
    fun lane kind epoch => ⟨addNotice_room kind epoch, ?_⟩⟩
  · rw [append_suspended r hstate, countUp_below hbelow]
  · rw [append_suspended r hstate, countUp_stopped hstopped]
  · rintro hfull before oldest after rfl holdest hbefore
    exact addNotice_full kind epoch hfull hbefore holdest

end Sys2Proof.Proofs
end

section
/-!
SUPPORT. The bytes of a frame: checks 1 to 3 of R132 one by one, and a frame that is written and read back (section 9.1,
R178).
-/

namespace Sys2Proof.Laws

-- One lemma at a time: checked at once, so many would start more threads than the memory limit of check.sh allows.
set_option Elab.async false

open Sys2Proof.Machine Sys2Proof.Safety

/-! ## Fields of the content (section 9.1) -/

/-- A field that ends within the first `n` bytes is read from them alone. -/
theorem field_take (bytes : List Byte) {offset size n : Nat} (h : offset + size ≤ n) :
    field (bytes.take n) offset size = field bytes offset size := by
  rw [field, field, List.drop_take, List.take_take, Nat.min_eq_left (by omega)]

/-- The last bytes are a field. -/
theorem beNat_drop (bytes : List Byte) {offset size : Nat} (h : bytes.length ≤ offset + size) :
    beNat (bytes.drop offset) = field bytes offset size := by
  rw [field, List.take_of_length_le (by rw [List.length_drop]; omega)]

/-- A field within a first part is read from that part alone. -/
theorem field_append_left (front rest : List Byte) {offset size : Nat} (h : offset + size ≤ front.length) :
    field (front ++ rest) offset size = field front offset size := by
  rw [field, field, List.drop_append_of_le_length (by omega),
    List.take_append_of_le_length (by rw [List.length_drop]; omega)]

/-! ## Checks 1 to 3 of R132 -/

section
variable {bytes : List Byte}

/-- The bytes of header and body: all but the check value. -/
abbrev contentOf (bytes : List Byte) : List Byte := bytes.take (bytes.length - 4)

theorem checkFrame_size (h : bytes.length < 14 ∨ 270 < bytes.length) : checkFrame bytes = .framingFault := if_pos h

/-- The checks that follow the first, by the fields of the bytes received. -/
theorem checkFrame_eq (hmin : 14 ≤ bytes.length) (hmax : bytes.length ≤ 270) : checkFrame bytes =
    if (crc32 (contentOf bytes)).toNat ≠ field bytes (bytes.length - 4) 4 then .crcFailure
    else if 256 < field bytes 2 2 ∨ field bytes 2 2 ≠ bytes.length - 14 then .framingFault
    else .wellFormed
      { kind := field bytes 0 1, tag := field bytes 1 1, epoch := field bytes 4 4, creditX := field bytes 8 1,
        body := (contentOf bytes).drop 10 } := by
  have hbody : ((contentOf bytes).drop 10).length = bytes.length - 14 := by
    rw [List.length_drop, List.length_take]
    omega
  have hfield : ∀ offset size, offset + size ≤ 10 → field (contentOf bytes) offset size = field bytes offset size :=
    fun offset size h => field_take bytes (by omega)
  rw [← hbody, ← beNat_drop bytes (by omega), ← hfield 2 2 (by decide), ← hfield 0 1 (by decide),
    ← hfield 1 1 (by decide), ← hfield 4 4 (by decide), ← hfield 8 1 (by decide)]
  exact if_neg (not_or.mpr ⟨Nat.not_lt.mpr hmin, Nat.not_lt.mpr hmax⟩)

theorem checkFrame_crcFailure (hmin : 14 ≤ bytes.length) (hmax : bytes.length ≤ 270)
    (h : (crc32 (contentOf bytes)).toNat ≠ field bytes (bytes.length - 4) 4) : checkFrame bytes = .crcFailure := by
  rw [checkFrame_eq hmin hmax, if_pos h]

theorem checkFrame_badLength (hmin : 14 ≤ bytes.length) (hmax : bytes.length ≤ 270)
    (hcrc : (crc32 (contentOf bytes)).toNat = field bytes (bytes.length - 4) 4)
    (h : 256 < field bytes 2 2 ∨ field bytes 2 2 ≠ bytes.length - 14) : checkFrame bytes = .framingFault := by
  rw [checkFrame_eq hmin hmax, if_neg (not_not.mpr hcrc), if_pos h]

theorem checkFrame_wellFormed (hmin : 14 ≤ bytes.length) (hmax : bytes.length ≤ 270)
    (hcrc : (crc32 (contentOf bytes)).toNat = field bytes (bytes.length - 4) 4)
    (hsize : field bytes 2 2 ≤ 256) (hbody : field bytes 2 2 = bytes.length - 14) : checkFrame bytes = .wellFormed
      { kind := field bytes 0 1, tag := field bytes 1 1, epoch := field bytes 4 4, creditX := field bytes 8 1,
        body := (contentOf bytes).drop 10 } := by
  rw [checkFrame_eq hmin hmax, if_neg (not_not.mpr hcrc), if_neg (by omega)]

end

/-! ## A frame written and read back -/

section
variable (kind tag size epoch x y : Nat) (content body : List Byte)

/-- A number that fits is read back from where it was written, whatever follows. -/
theorem field_written {bytes front : List Byte} {offset width n : Nat} (h : front ++ beBytes width n <+: bytes)
    (hfront : front.length = offset) (hn : n < 256 ^ width) : field bytes offset width = n := by
  obtain ⟨rest, rfl⟩ := h
  rw [List.append_assoc, field_append _ _ _ _ _ hfront (length_beBytes ..), beNat_beBytes_of_lt hn]

/-- The fields of a header read as they were written, where they fit. -/
theorem headerOf_fields (hkind : kind < 2 ^ 8) (htag : tag < 2 ^ 8) (hsize : size < 2 ^ 16) (hepoch : epoch < 2 ^ 32)
    (hx : x < 2 ^ 8) :
    field (headerOf kind tag size epoch x y) 0 1 = kind ∧ field (headerOf kind tag size epoch x y) 1 1 = tag ∧
    field (headerOf kind tag size epoch x y) 2 2 = size ∧ field (headerOf kind tag size epoch x y) 4 4 = epoch ∧
    field (headerOf kind tag size epoch x y) 8 1 = x := by
  have hupto8 : beBytes 1 kind ++ beBytes 1 tag ++ beBytes 2 size ++ beBytes 4 epoch ++ beBytes 1 x <+:
      headerOf kind tag size epoch x y := ⟨_, rfl⟩
  have hupto4 : beBytes 1 kind ++ beBytes 1 tag ++ beBytes 2 size ++ beBytes 4 epoch <+:
      headerOf kind tag size epoch x y := List.IsPrefix.trans ⟨_, rfl⟩ hupto8
  have hupto2 : beBytes 1 kind ++ beBytes 1 tag ++ beBytes 2 size <+: headerOf kind tag size epoch x y :=
    List.IsPrefix.trans ⟨_, rfl⟩ hupto4
  have hupto1 : beBytes 1 kind ++ beBytes 1 tag <+: headerOf kind tag size epoch x y :=
    List.IsPrefix.trans ⟨_, rfl⟩ hupto2
  have hupto0 : [] ++ beBytes 1 kind <+: headerOf kind tag size epoch x y := List.IsPrefix.trans ⟨_, rfl⟩ hupto1
  exact ⟨field_written hupto0 rfl hkind, field_written hupto1 rfl htag, field_written hupto2 rfl hsize,
    field_written hupto4 rfl hepoch, field_written hupto8 rfl hx⟩

@[simp] theorem length_closeFrame : (closeFrame content).length = content.length + 4 := by simp [closeFrame]

@[simp] theorem contentOf_closeFrame : contentOf (closeFrame content) = content := by
  simp [contentOf, closeFrame]

/-- The check value of a closed frame is that of its content (R178). -/
theorem closeFrame_check : field (closeFrame content) ((closeFrame content).length - 4) 4 = (crc32 content).toNat :=
  field_written ⟨[], List.append_nil _⟩ (by simp) (crc32 content).isLt

theorem length_frameBytes : (frameBytes kind tag epoch x y body).length = 14 + body.length := by
  simp only [frameBytes, length_closeFrame, List.length_append, length_headerOf]
  omega

/-- A header field of a frame is one of its header. -/
theorem frameBytes_field {offset width : Nat} (h : offset + width ≤ 10) :
    field (frameBytes kind tag epoch x y body) offset width =
      field (headerOf kind tag body.length epoch x y) offset width := by
  rw [frameBytes, closeFrame, List.append_assoc, field_append_left _ _ (by simpa using h)]

theorem checkFrame_frameBytes (hkind : kind < 2 ^ 8) (htag : tag < 2 ^ 8) (hepoch : epoch < 2 ^ 32) (hx : x < 2 ^ 8)
    (hbody : body.length ≤ 256) : checkFrame (frameBytes kind tag epoch x y body) =
      .wellFormed { kind := kind, tag := tag, epoch := epoch, creditX := x, body := body } := by
  have hlength := length_frameBytes kind tag epoch x y body
  obtain ⟨hk, ht, hs, he, hcredit⟩ := headerOf_fields kind tag body.length epoch x y hkind htag (by omega) hepoch hx
  have hfield : ∀ offset width, offset + width ≤ 10 → field (frameBytes kind tag epoch x y body) offset width =
      field (headerOf kind tag body.length epoch x y) offset width :=
    fun _ _ => frameBytes_field kind tag epoch x y body
  have hcontent : contentOf (frameBytes kind tag epoch x y body) = headerOf kind tag body.length epoch x y ++ body :=
    contentOf_closeFrame _
  have hsize : field (frameBytes kind tag epoch x y body) 2 2 = body.length := (hfield 2 2 (by decide)).trans hs
  rw [checkFrame_wellFormed (by omega) (by omega) (by rw [hcontent]; exact (closeFrame_check _).symm) (by omega)
    (by omega), hfield 0 1 (by decide), hfield 1 1 (by decide), hfield 4 4 (by decide), hfield 8 1 (by decide), hk, ht,
    he, hcredit, hcontent, List.drop_left' (length_headerOf ..)]

end

/-- The check value of the nine digits in ASCII (R178). -/
theorem crc32_digits : crc32 [0x31, 0x32, 0x33, 0x34, 0x35, 0x36, 0x37, 0x38, 0x39] = 0xCBF43926#32 := by
  decide +kernel

end Sys2Proof.Laws
end

section
/-!
The statement about the checks of an arriving frame and the bytes of a frame.
-/

namespace Sys2Proof.Proofs

open Sys2Proof.Machine Sys2Proof.Safety Sys2Proof.Laws

/-- Settles O60: the checks in their order, and a frame's fields through the bytes and back. -/
theorem framesCheckedAndReadBack : Obligations.FramesCheckedAndReadBack := by
  refine ⟨fun bytes => ⟨checkFrame_size, fun hmin hmax => ⟨checkFrame_crcFailure hmin hmax, fun hcrc =>
      ⟨checkFrame_badLength hmin hmax hcrc, checkFrame_wellFormed hmin hmax hcrc⟩⟩⟩, crc32_digits, ?_⟩
  intro kind tag epoch x y body hkind htag hepoch hx _ hbody
  exact ⟨length_frameBytes .., checkFrame_frameBytes kind tag epoch x y body hkind htag hepoch hx hbody⟩

end Sys2Proof.Proofs
end

section
/-!
SUPPORT. The credit of the links: what each change of an account keeps (R137 to R139, R142, R150, R155), and the operations
of the model that touch links or sessions. In the order of the model's files.
-/

namespace Sys2Proof.Laws

-- One lemma at a time: checked at once, so many would start more threads than the memory limit of check.sh allows.
set_option Elab.async false

open Sys2Proof.Machine Sys2Proof.Safety

/-! ## One ingress class (R137, R138, R142, R150) -/

section
variable {κ : Type} {capacity : Nat} {g : Ingress κ}

/-- A frame with credit moves one unit from outstanding to held. -/
theorem balanced_buffer (f : Frame κ) (hcredit : 0 < g.outstanding) (h : Safety.Balanced capacity g) :
    Safety.Balanced capacity (g.buffer f) := by
  simp only [Safety.Balanced, Ingress.buffer, List.length_append, List.length_singleton] at h ⊢
  omega

/-- An arrival that is discarded moves one unit from outstanding to return. -/
theorem balanced_discardArrival (hcredit : 0 < g.outstanding) (h : Safety.Balanced capacity g) :
    Safety.Balanced capacity g.discardArrival := by
  simp only [Safety.Balanced, Ingress.discardArrival] at h ⊢
  omega

/-- A taking moves one unit from held to return. -/
theorem balanced_takeHead {f : Frame κ} {rest : List (Frame κ)} (hframes : g.frames = f :: rest)
    (h : Safety.Balanced capacity g) : Safety.Balanced capacity g.takeHead := by
  simp only [Safety.Balanced, Ingress.takeHead, hframes, List.length_cons, List.tail_cons] at h ⊢
  omega

/-- A fencing moves all that is held to return. -/
theorem balanced_discardAll (h : Safety.Balanced capacity g) : Safety.Balanced capacity g.discardAll := by
  simp only [Safety.Balanced, Ingress.discardAll, List.length_nil] at h ⊢
  omega

/-- A send moves all that is to return to outstanding. -/
theorem balanced_giveBack (h : Safety.Balanced capacity g) : Safety.Balanced capacity g.giveBack := by
  simp only [Safety.Balanced, Ingress.giveBack] at h ⊢
  omega

/-- A good SYNC makes outstanding what the frames held leave of the capacity. -/
theorem balanced_rebuild (h : Safety.Balanced capacity g) : Safety.Balanced capacity (g.rebuild capacity) := by
  simp only [Safety.Balanced, Ingress.rebuild] at h ⊢
  omega

end

/-! ## Parts of a happening -/

/-- What `IngressLaw` asks of one agent link (R137). -/
def LinkBalanced (l : AgentLink) : Prop :=
  Safety.Balanced Config.answerableCapacity l.answerable ∧ Safety.Balanced Config.closingCapacity l.closing

/-- What `EgressLaw` asks of one agent's link and session (R77, R139). -/
def CreditWithin (l : AgentLink) (x : Session) : Prop :=
  l.recallCredit ≤ x.recallWindow ∧ x.recallWindow ≤ Config.maxRecallWindow

/-- A part of a happening that keeps both laws of credit. -/
structure KeepsCredit (s t : State) : Prop where
  ingress : IngressLaw s → IngressLaw t
  egress : EgressLaw s → EgressLaw t

section
variable {s t u : State}

theorem KeepsCredit.refl (s : State) : KeepsCredit s s := ⟨id, id⟩

theorem KeepsCredit.trans (h : KeepsCredit s t) (k : KeepsCredit t u) : KeepsCredit s u :=
  ⟨fun hs => k.ingress (h.ingress hs), fun hs => k.egress (h.egress hs)⟩

/-- Every agent's link and session keep what the laws ask of them; LI-M and the report window stay. -/
theorem KeepsCredit.of_agents (hlink : ∀ a, LinkBalanced (s.link a) → LinkBalanced (t.link a))
    (hcredit : ∀ a, CreditWithin (s.link a) (s.session a) → CreditWithin (t.link a) (t.session a))
    (hmgmt : t.mgmtLink = s.mgmtLink := by rfl) (hwindow : t.params.reportWindow = s.params.reportWindow := by rfl) :
    KeepsCredit s t where
  ingress := fun ⟨hagents, hcommand⟩ => ⟨fun a => hlink a (hagents a), hmgmt ▸ hcommand⟩
  egress := fun ⟨hagents, hreport⟩ => ⟨fun a => hcredit a (hagents a), by rw [hmgmt, hwindow]; exact hreport⟩

/-- Links, sessions and the report window stay. -/
theorem KeepsCredit.of_parts (hlinks : t.agentLinks = s.agentLinks := by rfl)
    (hsessions : t.sessions = s.sessions := by rfl) (hmgmt : t.mgmtLink = s.mgmtLink := by rfl)
    (hwindow : t.params.reportWindow = s.params.reportWindow := by rfl) : KeepsCredit s t := by
  have hlink : ∀ a, t.link a = s.link a := fun a => congrArg (fun p => p.get a) hlinks
  have hsession : ∀ a, t.session a = s.session a := fun a => congrArg (fun p => p.get a) hsessions
  exact .of_agents (fun a h => by rw [hlink]; exact h) (fun a h => by rw [hlink, hsession]; exact h) hmgmt hwindow

/-- A walk and its operations touch no credit. -/
theorem KeepsCredit.of_walk (h : WalkEffect s t) : KeepsCredit s t := by
  have hanswerable : ∀ a, (t.link a).answerable = (s.link a).answerable := fun a =>
    (congrArg AgentLink.answerable (h.links a)).symm
  have hclosing : ∀ a, (t.link a).closing = (s.link a).closing := fun a =>
    (congrArg AgentLink.closing (h.links a)).symm
  have hcredit : ∀ a, (t.link a).recallCredit = (s.link a).recallCredit := fun a =>
    (congrArg AgentLink.recallCredit (h.links a)).symm
  have hwindow : ∀ a, (t.session a).recallWindow = (s.session a).recallWindow := fun a => by
    obtain ⟨-, -, hsame⟩ := h.sessions a
    exact (congrArg Session.recallWindow hsame).symm
  refine .of_agents (fun a hs => ?_) (fun a hs => ?_) h.mgmtLink (congrArg (fun m => m.params.reportWindow) h.management)
  · rw [LinkBalanced, hanswerable, hclosing]
    exact hs
  · rw [CreditWithin, hcredit, hwindow]
    exact hs

theorem foldl_keepsCredit {α : Type} {f : State → α → State} (h : ∀ t x, KeepsCredit t (f t x)) :
    ∀ (l : List α) (s : State), KeepsCredit s (l.foldl f s)
  | [], s => .refl s
  | x :: l, s => (h s x).trans (foldl_keepsCredit h l (f s x))

end

/-! ## Changes of one block -/

section
variable {s : State}

/-- One agent's link and session change together. -/
theorem withLink_withSession_keepsCredit (a : AgentId) {x : Session} {l : AgentLink}
    (hlink : LinkBalanced (s.link a) → LinkBalanced l)
    (hcredit : CreditWithin (s.link a) (s.session a) → CreditWithin l x) :
    KeepsCredit s (withLink (withSession s a x) a l) := by
  have hget : ∀ b, (withLink (withSession s a x) a l).link b = if b = a then l else s.link b := fun _ =>
    PerAgent.get_set ..
  have hsession : ∀ b, (withLink (withSession s a x) a l).session b = if b = a then x else s.session b := fun _ =>
    PerAgent.get_set ..
  refine .of_agents (fun b => ?_) fun b => ?_
  · rw [hget]
    split
    · rename_i hb
      exact hb ▸ hlink
    · exact id
  · rw [hget, hsession]
    split
    · rename_i hb
      exact hb ▸ hcredit
    · exact id

/-- A link is replaced. -/
theorem withLink_keepsCredit (a : AgentId) {l : AgentLink} (hlink : LinkBalanced (s.link a) → LinkBalanced l)
    (hcredit : CreditWithin (s.link a) (s.session a) → CreditWithin l (s.session a)) :
    KeepsCredit s (withLink s a l) := by
  have hsame : withSession s a (s.session a) = s :=
    congrArg (fun p => { s with sessions := p }) (PerAgent.set_get s.sessions a)
  have hboth := withLink_withSession_keepsCredit a hlink hcredit
  rw [hsame] at hboth
  exact hboth

/-- A link changes. -/
theorem modLink_keepsCredit (a : AgentId) {f : AgentLink → AgentLink}
    (hlink : LinkBalanced (s.link a) → LinkBalanced (f (s.link a)) := by exact id)
    (hcredit : CreditWithin (s.link a) (s.session a) → CreditWithin (f (s.link a)) (s.session a) := by exact id) :
    KeepsCredit s (s.modLink a f) := withLink_keepsCredit a hlink hcredit

/-- A session changes and its recall window stays. -/
theorem modSession_keepsCredit (a : AgentId) {f : Session → Session}
    (h : (f (s.session a)).recallWindow = (s.session a).recallWindow := by rfl) : KeepsCredit s (s.modSession a f) := by
  refine .of_agents (fun _ => id) fun b => ?_
  rw [State.modSession_session, State.modSession_link]
  split
  · rename_i hb
    subst hb
    unfold CreditWithin
    rw [h]
    exact id
  · exact id

/-- LI-M changes. -/
theorem modMgmt_keepsCredit {f : MgmtLink → MgmtLink}
    (hcommand : Safety.Balanced Config.commandCapacity s.mgmtLink.command →
      Safety.Balanced Config.commandCapacity (f s.mgmtLink).command := by exact id)
    (hreport : s.mgmtLink.reportCredit ≤ s.params.reportWindow →
      (f s.mgmtLink).reportCredit ≤ s.params.reportWindow := by exact id) : KeepsCredit s (s.modMgmt f) where
  ingress := fun ⟨hagents, hs⟩ => ⟨hagents, hcommand hs⟩
  egress := fun ⟨hagents, hs⟩ => ⟨hagents, hreport hs⟩

end

/-! ## The shared operations -/

section
variable (s : State) (a : AgentId)

theorem report_keepsCredit (r : Report) : KeepsCredit s (s.report r) := .of_parts

theorem modCounters_keepsCredit (f : AgentCounters → AgentCounters) : KeepsCredit s (s.modCounters a f) :=
  modSession_keepsCredit a

theorem protocolError_keepsCredit (kind : ProtocolErrorKind) (code : Nat) :
    KeepsCredit s (s.protocolError a kind code) := (modCounters_keepsCredit ..).trans (report_keepsCredit ..)

theorem modMgmtCounters_keepsCredit (f : MgmtCounters → MgmtCounters) : KeepsCredit s (s.modMgmtCounters f) :=
  modMgmt_keepsCredit (f := fun l => { l with counters := f l.counters })

theorem mgmtProtocolError_keepsCredit (kind : ProtocolErrorKind) (code : Nat) :
    KeepsCredit s (s.mgmtProtocolError kind code) := (modMgmtCounters_keepsCredit ..).trans (report_keepsCredit ..)

theorem placeMgmtReply_keepsCredit (r : MgmtReply) : KeepsCredit s (s.placeMgmtReply r) :=
  modMgmt_keepsCredit (f := fun l => { l with replies := l.replies.place r })

theorem placeNotice_keepsCredit (kind : NoticeKind) (epoch : Nat) : KeepsCredit s (s.placeNotice a kind epoch) :=
  modLink_keepsCredit a

theorem placeReply_keepsCredit (tag : Nat) (reply : AgentReply) : KeepsCredit s (s.placeReply a tag reply) :=
  .of_walk (placeReply_walkEffect ..)

theorem refuse_keepsCredit (tag : Nat) (code : RefusalCode) : KeepsCredit s (s.refuse a tag code) :=
  placeReply_keepsCredit ..

theorem renewLease_keepsCredit (epoch : Nat) : KeepsCredit s (s.renewLease a epoch) := by
  rcases renewLease_cases s a epoch with hsame | ⟨-, -, hrenewed⟩
  · rw [hsame]
    exact .refl s
  · rw [hrenewed]
    exact modSession_keepsCredit (f := fun _ => renewed s a) a

/-- A renewal leaves the recall window. -/
theorem renewLease_recallWindow (epoch : Nat) :
    ((s.renewLease a epoch).session a).recallWindow = (s.session a).recallWindow := by
  rcases renewLease_cases s a epoch with hsame | ⟨-, -, hrenewed⟩
  · rw [hsame]
  · rw [hrenewed]
    have hget : ({ s with sessions := s.sessions.set a (renewed s a) } : State).session a = renewed s a :=
      PerAgent.get_set_self ..
    rw [hget]
    rfl

theorem linkError_keepsCredit (cause : LinkCause) : KeepsCredit s (s.linkError a cause) :=
  (modLink_keepsCredit (f := fun l => l.stop .waitSync) a).trans (report_keepsCredit ..)

theorem mgmtLinkError_keepsCredit (cause : LinkCause) : KeepsCredit s (s.mgmtLinkError cause) :=
  (modMgmt_keepsCredit (f := fun l => l.stop .waitSync)).trans (report_keepsCredit ..)

/-! ## Agent links (Chapter 7) -/

theorem signalFound_keepsCredit (link : LinkId) : KeepsCredit s (s.signalFound link) := by
  unfold State.signalFound
  cases link with
  | agent a =>
    dsimp only
    split
    · exact (modLink_keepsCredit a).trans (report_keepsCredit ..)
    · exact .refl s
  | mgmt =>
    dsimp only
    split
    · exact KeepsCredit.trans (t := s.modMgmt _) modMgmt_keepsCredit (report_keepsCredit ..)
    · exact .refl s

theorem signalLost_keepsCredit (link : LinkId) : KeepsCredit s (s.signalLost link) := by
  unfold State.signalLost
  cases link with
  | agent a =>
    dsimp only
    split
    · exact .refl s
    · exact (modLink_keepsCredit (f := fun l => l.stop .down) a).trans (report_keepsCredit ..)
  | mgmt =>
    dsimp only
    split
    · exact .refl s
    · exact (modMgmt_keepsCredit (f := fun l => l.stop .down)).trans (report_keepsCredit ..)

/-- A good SYNC rebuilds both accounts of a link. -/
theorem synced_balanced {l : AgentLink} (recallWindow count : Nat) (h : LinkBalanced l) :
    LinkBalanced (l.synced recallWindow count) := by
  obtain ⟨hanswerable, hclosing⟩ := h
  unfold AgentLink.synced
  dsimp only
  split <;> exact ⟨balanced_rebuild hanswerable, balanced_rebuild hclosing⟩

theorem synced_recallCredit (l : AgentLink) (recallWindow count : Nat) :
    (l.synced recallWindow count).recallCredit = min count recallWindow := rfl

theorem goodSync_keepsCredit (epoch count : Nat) : KeepsCredit s (s.goodSync a epoch count) := by
  unfold State.goodSync
  extract_lets s1 s2
  have h2 : KeepsCredit s s2 := by
    refine (renewLease_keepsCredit s a epoch).trans ?_
    unfold s2
    split
    · exact report_keepsCredit ..
    · exact .refl _
  have hwindow : (s2.session a).recallWindow = (s.session a).recallWindow := by
    unfold s2
    split <;> exact renewLease_recallWindow ..
  refine h2.trans (modLink_keepsCredit a (synced_balanced _ _) fun ⟨_, hmax⟩ => ⟨?_, hmax⟩)
  rw [synced_recallCredit, hwindow]
  exact min_le_right ..

theorem syncArrives_keepsCredit (f : RawFrame) : KeepsCredit s (s.syncArrives a f) := by
  unfold State.syncArrives
  split
  · exact protocolError_keepsCredit ..
  · exact goodSync_keepsCredit ..

theorem answerableArrives_keepsCredit (k : AnswerableKind) (f : RawFrame) :
    KeepsCredit s (s.answerableArrives a k f) := by
  rcases Nat.eq_zero_or_pos (s.link a).answerable.outstanding with hnone | hcredit
  · rw [answerableArrives_overrun k hnone]
    exact linkError_keepsCredit ..
  · rw [answerableArrives_credit k hcredit]
    exact withLink_keepsCredit a (fun ⟨hanswerable, hclosing⟩ => ⟨balanced_buffer _ hcredit hanswerable, hclosing⟩)
      fun ⟨_, hmax⟩ => ⟨min_le_right .., hmax⟩

theorem closingArrives_keepsCredit (k : ClosingKind) (f : RawFrame) : KeepsCredit s (s.closingArrives a k f) := by
  rcases Nat.eq_zero_or_pos (s.link a).closing.outstanding with hnone | hcredit
  · rw [closingArrives_overrun k hnone]
    exact linkError_keepsCredit ..
  · rw [closingArrives_credit k hcredit]
    exact withLink_keepsCredit a (fun ⟨hanswerable, hclosing⟩ => ⟨hanswerable, balanced_buffer _ hcredit hclosing⟩)
      fun ⟨_, hmax⟩ => ⟨min_le_right .., hmax⟩

theorem unknownArrives_keepsCredit (f : RawFrame) : KeepsCredit s (s.unknownArrives a f) := by
  rcases Nat.eq_zero_or_pos (s.link a).closing.outstanding with hnone | hcredit
  · rw [unknownArrives_overrun hnone]
    exact linkError_keepsCredit ..
  · rw [unknownArrives_credit hcredit]
    refine KeepsCredit.trans ?_ (protocolError_keepsCredit ..)
    exact withLink_keepsCredit a
      (fun ⟨hanswerable, hclosing⟩ => ⟨hanswerable, balanced_discardArrival hcredit hclosing⟩)
      fun ⟨_, hmax⟩ => ⟨min_le_right .., hmax⟩

theorem crcFailure_keepsCredit : KeepsCredit s (s.crcFailure a) := modCounters_keepsCredit ..

theorem frameArrives_keepsCredit (bytes : List Byte) : KeepsCredit s (s.frameArrives a bytes) := by
  unfold State.frameArrives State.arrivesInWaitSync State.arrivesInRun
  split
  · exact .refl s
  · split
    · exact .refl s
    · exact crcFailure_keepsCredit ..
    · split
      · exact syncArrives_keepsCredit ..
      · exact .refl s
  · split
    · exact linkError_keepsCredit ..
    · exact (crcFailure_keepsCredit ..).trans (linkError_keepsCredit ..)
    · split
      · exact syncArrives_keepsCredit ..
      · exact answerableArrives_keepsCredit ..
      · exact closingArrives_keepsCredit ..
      · exact unknownArrives_keepsCredit ..

/-- A RECALL that is sent uses one unit of recall credit (R63). -/
theorem leaveLane_keepsCredit (choice : AgentSend) : KeepsCredit s (s.leaveLane a choice) := by
  cases choice with
  | control frame => exact modLink_keepsCredit a
  | reply r =>
    have hsent : KeepsCredit s
        (s.modLink a fun l => { l with replies := l.replies.sendHead, turn := .recallLane }) := modLink_keepsCredit a
    unfold State.leaveLane
    dsimp only
    split
    · exact hsent.trans (modCounters_keepsCredit ..)
    · exact hsent
  | recallMessage m =>
    have hsent : KeepsCredit s
        (s.modLink a fun l => { l with recallCredit := l.recallCredit - 1, turn := .reply }) :=
      modLink_keepsCredit a id fun ⟨hcredit, hmax⟩ => ⟨(Nat.sub_le ..).trans hcredit, hmax⟩
    exact hsent.trans .of_parts
  | credit => exact .refl s

theorem agentLinkSends_keepsCredit : KeepsCredit s (s.agentLinkSends a) := by
  unfold State.agentLinkSends
  split
  · split
    · exact .refl s
    · exact (leaveLane_keepsCredit ..).trans (modLink_keepsCredit a fun ⟨hanswerable, hclosing⟩ =>
        ⟨balanced_giveBack hanswerable, balanced_giveBack hclosing⟩)
  · exact .refl s

/-! ## Churn Monitor (Chapter 6) -/

theorem recordOutcome_keepsCredit (o : ChurnOutcome) : KeepsCredit s (s.recordOutcome a o) := by
  unfold State.recordOutcome State.testAlarm State.raiseAlarm
  split
  · split
    · dsimp only
      split
      · exact KeepsCredit.trans (t := ((s.modMember a _).modMember a _).report _) .of_parts (placeNotice_keepsCredit ..)
      · exact .of_parts
    · exact .of_parts
  · exact .refl s

theorem clearGroupWindows_keepsCredit (g : GroupId) : KeepsCredit s (s.clearGroupWindows g) :=
  foldl_keepsCredit (fun t a => by split; exacts [.of_parts, .refl t]) _ s

/-! ## Wait List and Sweep Engine (Chapters 2, 3 and 5) -/

theorem reevaluate_keepsCredit : KeepsCredit s s.reevaluate := .of_walk (walkFrom_walkEffect ..)

theorem admission_keepsCredit (c : Claim) (tag epoch maxWait : Nat) :
    KeepsCredit s (s.admission c tag epoch maxWait) := by
  cases hobstacle : s.obstacle s.waitList c with
  | none =>
    rw [admission_granted hobstacle]
    exact .of_walk (grant_walkEffect ..)
  | some o =>
    rw [admission_blocked hobstacle]
    split
    · exact refuse_keepsCredit ..
    · split
      · exact refuse_keepsCredit ..
      · split
        · exact refuse_keepsCredit ..
        · unfold State.appendEntry
          dsimp only
          split
          · exact KeepsCredit.trans (t := s.setWaitList _) .of_parts (.of_walk (recallConflicts_walkEffect ..))
          · exact .of_parts

theorem refuseEntries_keepsCredit (l : List WaitEntry) (code : RefusalCode) :
    KeepsCredit s (s.refuseEntries l code) := foldl_keepsCredit (fun _ _ => refuse_keepsCredit ..) l s

theorem expelEntry_keepsCredit (tag : Nat) (code : RefusalCode) : KeepsCredit s (s.expelEntry a tag code) :=
  (KeepsCredit.trans (t := s.setWaitList _) .of_parts (refuse_keepsCredit ..)).trans (reevaluate_keepsCredit _)

theorem endSweep_keepsCredit (status : SweepEnd) : KeepsCredit s (s.endSweep status) := by
  unfold State.endSweep
  split
  · exact .refl s
  · exact .of_parts

theorem completeIfDrained_keepsCredit : KeepsCredit s s.completeIfDrained := by
  unfold State.completeIfDrained
  split
  · split
    · exact endSweep_keepsCredit ..
    · exact .refl s
  · exact .refl s

theorem resolvePending_keepsCredit (how : Resolution) : KeepsCredit s (s.resolvePending how) :=
  KeepsCredit.trans (t := s.modSweep _) .of_parts (completeIfDrained_keepsCredit _)

theorem sweepRecall_keepsCredit (slot : Nat) (wanted : Wanted) : KeepsCredit s (s.sweepRecall slot wanted) :=
  (KeepsCredit.of_walk (requestRecall_walkEffect s slot wanted .sweep)).trans .of_parts

theorem sweepReach_keepsCredit (w : Sweep) (r : GrantRecord) : KeepsCredit s (s.sweepReach w r) := by
  unfold State.sweepReach State.sweepAction
  dsimp only
  split
  · split
    · exact KeepsCredit.trans .of_parts (sweepRecall_keepsCredit ..)
    · exact KeepsCredit.trans .of_parts (sweepRecall_keepsCredit ..)
    · exact .of_parts
    · exact .of_parts
  · exact .of_parts

theorem walkAfterStep_keepsCredit {t : State} (h : KeepsCredit s t) : KeepsCredit s (s.walkAfterStep t) := by
  unfold State.walkAfterStep
  split
  · exact h.trans (reevaluate_keepsCredit t)
  · exact h

theorem sweepOnce_keepsCredit : KeepsCredit s s.sweepOnce := by
  have hfinished : KeepsCredit s s.finishScan :=
    KeepsCredit.trans (t := s.modSweep _) .of_parts (completeIfDrained_keepsCredit _)
  unfold State.sweepOnce
  split
  · exact .refl s
  · split
    · exact .refl s
    · split
      · exact walkAfterStep_keepsCredit s hfinished
      · split
        · exact walkAfterStep_keepsCredit s (sweepReach_keepsCredit ..)
        · exact walkAfterStep_keepsCredit s hfinished

/-! ## Removal, downgrade and the end of a session (R21, R23, R85, R93) -/

theorem detachRecord_keepsCredit (cause : RemovalCause) (r : GrantRecord) :
    KeepsCredit s (s.detachRecord cause r) := by
  rw [detachRecord_eq]
  exact .of_parts

theorem releaseRecord_keepsCredit (r : GrantRecord) : KeepsCredit s (s.removeRecord .release r) :=
  ((detachRecord_keepsCredit ..).trans (recordOutcome_keepsCredit ..)).trans (.of_walk (dropConvert_walkEffect ..))

theorem removeRecords_keepsCredit {cause : RemovalCause} (hc : cause ≠ .release) :
    KeepsCredit s (s.removeRecords cause a) := by
  rw [removeRecords_eq_foldl s hc]
  exact foldl_keepsCredit (fun _ _ => detachRecord_keepsCredit ..) _ s

theorem downgradeRecord_keepsCredit (r : GrantRecord) : KeepsCredit s (s.downgradeRecord r) := by
  unfold State.downgradeRecord
  extract_lets satisfied leavesPending s1 s2 s3
  have h2 : KeepsCredit s s2 := by
    unfold s2
    split <;> exact .of_parts
  have h3 : KeepsCredit s s3 := by
    unfold s3
    split
    · exact h2.trans (resolvePending_keepsCredit ..)
    · exact h2
  split
  · exact h3.trans (recordOutcome_keepsCredit ..)
  · exact h3

theorem endSession_keepsCredit : KeepsCredit s (s.endSession a) := by
  have hleft : KeepsCredit s (s.removeEntries a) := .of_parts
  have hrefused := hleft.trans (refuseEntries_keepsCredit _ (s.entriesOf a) .sessionEnded)
  exact (hrefused.trans (removeRecords_keepsCredit (cause := .leave) _ a nofun)).trans .of_parts

theorem fence_keepsCredit (cause : FenceCause) : KeepsCredit s (s.fence a cause) := by
  unfold State.fence State.fenceSteps
  extract_lets epoch s1 s2 s3 s4 s5 s6 s7 s8
  have h1 : KeepsCredit s s1 := .of_parts
  have h2 : KeepsCredit s s2 := h1.trans (modLink_keepsCredit a)
  have h4 : KeepsCredit s s4 := (h2.trans (removeRecords_keepsCredit (cause := .fencing) s2 a nofun)).trans .of_parts
  have h5 : KeepsCredit s s5 := h4.trans (modSession_keepsCredit a)
  have h6 : KeepsCredit s s6 := h5.trans .of_parts
  have h7 : KeepsCredit s s7 := h6.trans (modLink_keepsCredit a fun ⟨hanswerable, hclosing⟩ =>
    ⟨balanced_discardAll hanswerable, balanced_discardAll hclosing⟩)
  exact ((h7.trans (placeNotice_keepsCredit ..)).trans (report_keepsCredit ..)).trans (reevaluate_keepsCredit _)

end

end Sys2Proof.Laws
end

section
/-!
SUPPORT. Every command keeps the laws of credit: those that take a frame, those of LI-M and the management commands.
-/

namespace Sys2Proof.Laws

-- One lemma at a time: checked at once, so many would start more threads than the memory limit of check.sh allows.
set_option Elab.async false

open Sys2Proof.Machine Sys2Proof.Safety

/-! ## Answerable frames (R140) -/

section
variable (s : State) (a : AgentId)

theorem onAnswerable_keepsCredit {act : State → Frame AnswerableKind → State}
    (h : ∀ t f, KeepsCredit t (act t f)) (k : AnswerableKind) : KeepsCredit s (s.onAnswerable a k act) := by
  rcases onAnswerable_cases s a k act with ⟨-, hidle⟩ | ⟨f, rest, ⟨hframes, -⟩, htaken⟩
  · rw [hidle]
    exact .refl s
  · rw [htaken]
    have htaking : KeepsCredit s (s.afterTakingAnswerable a f.epoch) :=
      (modLink_keepsCredit a fun ⟨hanswerable, hclosing⟩ =>
        ⟨balanced_takeHead hframes hanswerable, hclosing⟩).trans (renewLease_keepsCredit ..)
    exact htaking.trans (h ..)

/-- A window that a JOIN asks for is at most 16 (R81, R180). -/
theorem joinWindow_le (body : List Byte) : (joinWindow body).getD 0 ≤ Config.maxRecallWindow := by
  unfold joinWindow
  split
  · rename_i hrange
    obtain ⟨-, -, hmax⟩ := hrange
    exact hmax
  · exact Nat.zero_le _

/-- A session starts with its recall credit at the window (R82). -/
theorem startSession_keepsCredit (tag : Nat) {window : Nat} (h : window ≤ Config.maxRecallWindow) :
    KeepsCredit s (s.startSession a tag window) := by
  have hstarted : KeepsCredit s (withLink
      (withSession s a { s.session a with
        state := .active (s.timeBase + s.params.leasePeriod)
        epoch := nextEpoch (s.session a).epoch
        recallWindow := window })
      a { s.link a with recallCredit := window }) :=
    withLink_withSession_keepsCredit a id fun _ => ⟨le_refl _, h⟩
  exact hstarted.trans (placeReply_keepsCredit ..)

theorem handleJoin_keepsCredit (f : Frame AnswerableKind) : KeepsCredit s (State.handleJoin a s f) := by
  unfold State.handleJoin State.acceptJoin
  split
  · exact refuse_keepsCredit ..
  · have hwindow := joinWindow_le f.body
    split
    · exact ((endSession_keepsCredit ..).trans (startSession_keepsCredit _ a f.tag hwindow)).trans
        (reevaluate_keepsCredit _)
    · exact startSession_keepsCredit s a f.tag hwindow

theorem handleAcquire_keepsCredit (f : Frame AnswerableKind) : KeepsCredit s (State.handleAcquire a s f) := by
  unfold State.handleAcquire
  split
  · exact refuse_keepsCredit ..
  · split
    · exact refuse_keepsCredit ..
    · split
      · exact refuse_keepsCredit ..
      · exact admission_keepsCredit ..

theorem convertUp_keepsCredit (tag epoch maxWait : Nat) (r : GrantRecord) :
    KeepsCredit s (s.convertUp a tag epoch maxWait r) := by
  unfold State.convertUp
  split
  · exact refuse_keepsCredit ..
  · exact admission_keepsCredit ..

theorem convertSubject_keepsCredit (tag epoch : Nat) (q : ConvertFields) :
    KeepsCredit s (s.convertSubject a tag epoch q) := by
  unfold State.convertSubject
  split
  · exact refuse_keepsCredit ..
  · split
    · exact refuse_keepsCredit ..
    · split
      · exact refuse_keepsCredit ..
      · split
        · exact ((downgradeRecord_keepsCredit ..).trans (reevaluate_keepsCredit _)).trans (placeReply_keepsCredit ..)
        · exact convertUp_keepsCredit ..

theorem handleConvert_keepsCredit (f : Frame AnswerableKind) : KeepsCredit s (State.handleConvert a s f) := by
  unfold State.handleConvert
  split
  · exact refuse_keepsCredit ..
  · split
    · exact refuse_keepsCredit ..
    · split
      · exact convertSubject_keepsCredit ..
      · exact refuse_keepsCredit ..

theorem handleQuery_keepsCredit (f : Frame AnswerableKind) : KeepsCredit s (State.handleQuery a s f) := by
  unfold State.handleQuery
  split
  · exact refuse_keepsCredit ..
  · split
    · exact refuse_keepsCredit ..
    · split
      · exact refuse_keepsCredit ..
      · split
        · exact refuse_keepsCredit ..
        · exact placeReply_keepsCredit ..

theorem handleLeave_keepsCredit (f : Frame AnswerableKind) : KeepsCredit s (State.handleLeave a s f) := by
  unfold State.handleLeave State.leaveSession
  split
  · exact refuse_keepsCredit ..
  · split
    · exact refuse_keepsCredit ..
    · exact (((endSession_keepsCredit s a).trans (placeReply_keepsCredit _ a f.tag .left)).trans
        (modSession_keepsCredit a)).trans (reevaluate_keepsCredit _)

/-! ## Closing frames (R141) -/

theorem closingChecks_keepsCredit {act : State → Frame ClosingKind → State} (h : ∀ t f, KeepsCredit t (act t f))
    (f : Frame ClosingKind) : KeepsCredit s (State.closingChecks a act s f) := by
  unfold State.closingChecks
  split
  · exact modCounters_keepsCredit ..
  · split
    · exact modCounters_keepsCredit ..
    · exact modCounters_keepsCredit ..
    · split
      · exact protocolError_keepsCredit ..
      · split
        · exact protocolError_keepsCredit ..
        · exact h s f

theorem onClosing_keepsCredit {act : State → Frame ClosingKind → State} (h : ∀ t f, KeepsCredit t (act t f))
    (k : ClosingKind) : KeepsCredit s (s.onClosing a k act) := by
  rcases onClosing_cases s a k act with ⟨-, hidle⟩ | ⟨f, rest, ⟨hframes, -⟩, htaken⟩
  · rw [hidle]
    exact .refl s
  · rw [htaken]
    have htaking : KeepsCredit s (s.afterTakingClosing a f.epoch) :=
      (modLink_keepsCredit a fun ⟨hanswerable, hclosing⟩ =>
        ⟨hanswerable, balanced_takeHead hframes hclosing⟩).trans (renewLease_keepsCredit ..)
    exact htaking.trans (closingChecks_keepsCredit _ a h f)

theorem handleRelease_keepsCredit (f : Frame ClosingKind) : KeepsCredit s (State.handleRelease a s f) := by
  unfold State.handleRelease
  split
  · exact protocolError_keepsCredit ..
  · exact (releaseRecord_keepsCredit ..).trans (reevaluate_keepsCredit _)

theorem handleDowngrade_keepsCredit (f : Frame ClosingKind) : KeepsCredit s (State.handleDowngrade a s f) := by
  unfold State.handleDowngrade
  split
  · exact protocolError_keepsCredit ..
  · split
    · exact modCounters_keepsCredit ..
    · exact (downgradeRecord_keepsCredit ..).trans (reevaluate_keepsCredit _)

theorem handleCancel_keepsCredit (f : Frame ClosingKind) : KeepsCredit s (State.handleCancel a s f) := by
  unfold State.handleCancel
  split
  · exact modCounters_keepsCredit ..
  · exact expelEntry_keepsCredit ..

/-! ## Deadlines that pass (R48, R66, R89) -/

theorem waitDeadlinePasses_keepsCredit (tag : Nat) : KeepsCredit s (s.waitDeadlinePasses a tag) := by
  unfold State.waitDeadlinePasses
  split
  · exact .refl s
  · split
    · exact expelEntry_keepsCredit ..
    · exact .refl s

theorem recallDeadlinePasses_keepsCredit (slot : Nat) : KeepsCredit s (s.recallDeadlinePasses slot) := by
  unfold State.recallDeadlinePasses
  split
  · exact .refl s
  · split
    · exact .refl s
    · split
      · split
        · exact .of_parts
        · exact fence_keepsCredit ..
      · exact .refl s

theorem leaseDeadlinePasses_keepsCredit : KeepsCredit s (s.leaseDeadlinePasses a) := by
  unfold State.leaseDeadlinePasses
  split
  · split
    · exact fence_keepsCredit ..
    · exact .refl s
  · exact .refl s

/-! ## LI-M (sections 8.1 and 8.8) -/

theorem mgmtGoodSync_keepsCredit (count : Nat) : KeepsCredit s (s.mgmtGoodSync count) := by
  unfold State.mgmtGoodSync
  extract_lets s1
  have h1 : KeepsCredit s s1 := by
    unfold s1
    split
    · exact report_keepsCredit ..
    · exact .refl s
  have hwindow : s1.params.reportWindow = s.params.reportWindow := by
    unfold s1
    split <;> rfl
  refine h1.trans (modMgmt_keepsCredit (fun hcommand => ?_) fun _ => ?_)
  · unfold MgmtLink.synced
    dsimp only
    split <;> exact balanced_rebuild hcommand
  · rw [hwindow]
    exact min_le_right ..

theorem mgmtSyncArrives_keepsCredit (f : RawFrame) : KeepsCredit s (s.mgmtSyncArrives f) := by
  unfold State.mgmtSyncArrives
  split
  · exact mgmtProtocolError_keepsCredit ..
  · exact mgmtGoodSync_keepsCredit ..

theorem addReportCredit_keepsCredit (x : Nat) : KeepsCredit s (s.addReportCredit x) :=
  modMgmt_keepsCredit id fun _ => min_le_right ..

theorem commandArrives_keepsCredit (k : CommandKind) (f : RawFrame) : KeepsCredit s (s.commandArrives k f) := by
  unfold State.commandArrives
  split
  · exact mgmtLinkError_keepsCredit ..
  · rename_i hcredit
    exact (addReportCredit_keepsCredit s f.creditX).trans
      (modMgmt_keepsCredit (balanced_buffer _ (Nat.pos_of_ne_zero hcredit)))

theorem mgmtUnknownArrives_keepsCredit (f : RawFrame) : KeepsCredit s (s.mgmtUnknownArrives f) := by
  unfold State.mgmtUnknownArrives
  split
  · exact mgmtLinkError_keepsCredit ..
  · rename_i hcredit
    exact ((addReportCredit_keepsCredit s f.creditX).trans
      (modMgmt_keepsCredit (balanced_discardArrival (Nat.pos_of_ne_zero hcredit)))).trans
      (mgmtProtocolError_keepsCredit ..)

theorem mgmtCrcFailure_keepsCredit : KeepsCredit s s.mgmtCrcFailure := modMgmtCounters_keepsCredit ..

theorem mgmtFrameArrives_keepsCredit (bytes : List Byte) : KeepsCredit s (s.mgmtFrameArrives bytes) := by
  unfold State.mgmtFrameArrives State.mgmtArrivesInWaitSync State.mgmtArrivesInRun
  split
  · exact .refl s
  · split
    · exact .refl s
    · exact mgmtCrcFailure_keepsCredit s
    · split
      · exact mgmtSyncArrives_keepsCredit ..
      · exact .refl s
  · split
    · exact mgmtLinkError_keepsCredit ..
    · exact (mgmtCrcFailure_keepsCredit s).trans (mgmtLinkError_keepsCredit ..)
    · split
      · exact mgmtSyncArrives_keepsCredit ..
      · exact commandArrives_keepsCredit ..
      · exact mgmtUnknownArrives_keepsCredit ..

theorem reportAckTaken_keepsCredit : KeepsCredit s s.reportAckTaken := by
  unfold State.reportAckTaken
  split
  · exact .refl s
  · rename_i f rest hframes
    have htaking : KeepsCredit s (s.modMgmt fun l => { l with command := l.command.takeHead }) :=
      modMgmt_keepsCredit (balanced_takeHead hframes)
    split
    · dsimp only
      split
      · exact htaking
      · exact htaking.trans (mgmtProtocolError_keepsCredit ..)
    · exact .refl s

/-- A REPORT that is sent uses one unit of report credit (R158). -/
theorem leaveMgmtLane_keepsCredit (choice : MgmtSend) : KeepsCredit s (s.leaveMgmtLane choice) := by
  cases choice with
  | syncAck n => exact modMgmt_keepsCredit (f := fun l => { l with syncAck := none })
  | reply r =>
    have hsent : KeepsCredit s (s.modMgmt fun l => { l with replies := l.replies.sendHead, turn := .report }) :=
      modMgmt_keepsCredit
    unfold State.leaveMgmtLane
    dsimp only
    split
    · exact hsent
    · exact hsent.trans (modMgmtCounters_keepsCredit ..)
  | report head =>
    have hsent : KeepsCredit s
        (s.modMgmt fun l => { l with reportCredit := l.reportCredit - 1, turn := .reply }) :=
      modMgmt_keepsCredit id fun hreport => (Nat.sub_le ..).trans hreport
    exact hsent.trans .of_parts
  | credit => exact .refl s

theorem mgmtLinkSends_keepsCredit : KeepsCredit s s.mgmtLinkSends := by
  unfold State.mgmtLinkSends
  split
  · split
    · exact .refl s
    · exact (leaveMgmtLane_keepsCredit ..).trans (modMgmt_keepsCredit balanced_giveBack)
  · exact .refl s

end

/-! ## Management commands (Chapter 8) -/

section
variable {s : State}

/-- What a management command comes to keeps the laws of credit. -/
abbrev AnswerKeepsCredit (s : State) : Answer → Prop := AnswerHolds (KeepsCredit s)

/-- An answer that leaves links, sessions and the report window. -/
theorem answerKeepsCredit_parts {t : State} {result : MgmtResult} (hlinks : t.agentLinks = s.agentLinks := by rfl)
    (hsessions : t.sessions = s.sessions := by rfl) (hmgmt : t.mgmtLink = s.mgmtLink := by rfl)
    (hwindow : t.params.reportWindow = s.params.reportWindow := by rfl) : AnswerKeepsCredit s (.done t result) :=
  KeepsCredit.of_parts hlinks hsessions hmgmt hwindow

theorem onCommand_keepsCredit {act : State → List Byte → Answer} (h : ∀ t body, AnswerKeepsCredit t (act t body))
    (s : State) (k : CommandKind) : KeepsCredit s (s.onCommand k act) := by
  rcases onCommand_cases s k act with ⟨-, hidle⟩ | ⟨f, rest, ⟨hframes, -⟩, htaken⟩
  · rw [hidle]
    exact .refl s
  · rw [htaken]
    have htaking : KeepsCredit s s.afterTakingCommand := modMgmt_keepsCredit (balanced_takeHead hframes)
    have hact := h s.afterTakingCommand f.body
    cases hanswer : act s.afterTakingCommand f.body with
    | refuse status => exact htaking.trans (placeMgmtReply_keepsCredit ..)
    | done t result =>
      rw [hanswer] at hact
      have hdone : KeepsCredit s.afterTakingCommand t := hact
      exact (htaking.trans hdone).trans (placeMgmtReply_keepsCredit ..)

theorem onAgent_keepsCredit {act : State → AgentId → Answer} (h : ∀ t a, AnswerKeepsCredit t (act t a)) (s : State)
    (body : List Byte) : AnswerKeepsCredit s (State.onAgent act s body) := by
  unfold State.onAgent
  split
  · trivial
  · split
    · trivial
    · exact h ..

/-- CONFIGURE sets the report credit to the report window it brings (R162, R177). -/
theorem applyConfigure_keepsCredit (s : State) (q : ConfigureFields) : KeepsCredit s (s.applyConfigure q) where
  ingress := id
  egress := fun ⟨hagents, _⟩ => ⟨fun a => by rw [applyConfigure_session]; exact hagents a, le_refl _⟩

theorem runConfigure_keepsCredit (s : State) (body : List Byte) : AnswerKeepsCredit s (s.runConfigure body) := by
  unfold State.runConfigure
  refine answerHolds_unless fun _ => ?_
  split
  · trivial
  · exact applyConfigure_keepsCredit ..

theorem setGroupParam_keepsCredit (s : State) (identifier selector value : Nat) :
    AnswerKeepsCredit s (s.setGroupParam identifier selector value) := by
  have hcleared : ∀ g f, KeepsCredit s ((s.setGroup g f).clearGroupWindows g) := fun g f =>
    KeepsCredit.trans (t := s.setGroup g f) .of_parts (clearGroupWindows_keepsCredit ..)
  unfold State.setGroupParam
  split
  · trivial
  · dsimp only
    split
    · exact answerHolds_if fun _ => hcleared ..
    · exact answerHolds_if fun _ => hcleared ..
    · exact answerHolds_if fun _ => hcleared ..
    · exact answerHolds_if fun _ => answerKeepsCredit_parts

theorem setAgentGroup_keepsCredit (s : State) (selector value : Nat) :
    AnswerKeepsCredit s (s.setAgentGroup selector value) := by
  unfold State.setAgentGroup
  split
  · trivial
  · rename_i a _
    split
    · trivial
    · rename_i g _
      exact KeepsCredit.trans (t := s.modSession a fun x => { x with group := g }) (modSession_keepsCredit a) .of_parts

theorem setOneParam_keepsCredit (s : State) (q : SetParamFields) : AnswerKeepsCredit s (s.setOneParam q) := by
  unfold State.setOneParam
  split
  · exact answerHolds_unless fun _ => answerHolds_unless fun _ => answerKeepsCredit_parts
  · exact answerHolds_if fun _ => answerKeepsCredit_parts
  · exact answerHolds_if fun _ => answerKeepsCredit_parts
  · exact answerHolds_if fun _ => answerKeepsCredit_parts
  · exact setGroupParam_keepsCredit ..
  · exact setGroupParam_keepsCredit ..
  · exact setGroupParam_keepsCredit ..
  · exact setGroupParam_keepsCredit ..
  · exact setAgentGroup_keepsCredit ..
  · trivial

theorem runSetParam_keepsCredit (s : State) (body : List Byte) : AnswerKeepsCredit s (s.runSetParam body) := by
  unfold State.runSetParam
  refine answerHolds_unless fun _ => ?_
  split
  · trivial
  · exact setOneParam_keepsCredit ..

theorem runAdmit_keepsCredit (s : State) (a : AgentId) : AnswerKeepsCredit s (s.runAdmit a) :=
  modSession_keepsCredit (f := Session.admitted) a

theorem runEvict_keepsCredit (s : State) (a : AgentId) : AnswerKeepsCredit s (s.runEvict a) := by
  have hcleared : KeepsCredit s (s.modSession a fun x => { x with admitFlag := false }) := modSession_keepsCredit a
  unfold State.runEvict
  dsimp only
  split
  · exact hcleared.trans (fence_keepsCredit ..)
  · exact hcleared

theorem runAckChurn_keepsCredit (s : State) (a : AgentId) : AnswerKeepsCredit s (s.runAckChurn a) :=
  answerKeepsCredit_parts

theorem runPause_keepsCredit (s : State) (body : List Byte) : AnswerKeepsCredit s (s.runPause body) :=
  answerHolds_unless fun _ => answerHolds_unless fun _ => answerKeepsCredit_parts

theorem runResume_keepsCredit (s : State) (body : List Byte) : AnswerKeepsCredit s (s.runResume body) :=
  answerHolds_unless fun _ => answerHolds_unless fun _ => answerKeepsCredit_parts

theorem runSweepStart_keepsCredit (s : State) (body : List Byte) : AnswerKeepsCredit s (s.runSweepStart body) := by
  unfold State.runSweepStart
  refine answerHolds_unless fun _ => ?_
  split
  · trivial
  · refine answerHolds_unless fun _ => ?_
    split
    · trivial
    · exact answerHolds_unless fun _ => answerHolds_unless fun _ => answerKeepsCredit_parts

theorem runSweepAbort_keepsCredit (s : State) (body : List Byte) : AnswerKeepsCredit s (s.runSweepAbort body) := by
  have hcleared : KeepsCredit s s.clearPending := .of_parts
  exact answerHolds_unless fun _ => answerHolds_unless fun _ =>
    (hcleared.trans (endSweep_keepsCredit ..)).trans (reevaluate_keepsCredit _)

theorem runQueryExtent_keepsCredit (s : State) (body : List Byte) : AnswerKeepsCredit s (s.runQueryExtent body) := by
  unfold State.runQueryExtent
  refine answerHolds_unless fun _ => ?_
  split
  · trivial
  · exact answerHolds_unless fun _ => answerKeepsCredit_parts

theorem runQueryAgent_keepsCredit (s : State) (a : AgentId) : AnswerKeepsCredit s (s.runQueryAgent a) :=
  answerKeepsCredit_parts

theorem runReadCounters_keepsCredit (s : State) (body : List Byte) : AnswerKeepsCredit s (s.runReadCounters body) := by
  unfold State.runReadCounters State.readAgentCounters State.readMgmtCounters
  split
  · trivial
  · refine answerHolds_unless fun _ => answerHolds_unless fun _ => ?_
    split
    · show KeepsCredit s _
      split
      · exact modCounters_keepsCredit ..
      · exact .refl s
    · show KeepsCredit s _
      split
      · exact modMgmtCounters_keepsCredit ..
      · exact .refl s

theorem runReportResume_keepsCredit (s : State) (body : List Byte) : AnswerKeepsCredit s (s.runReportResume body) := by
  unfold State.runReportResume
  refine answerHolds_unless fun _ => ?_
  split
  · exact answerKeepsCredit_parts
  · exact answerKeepsCredit_parts

theorem resetSession_keepsCredit (s : State) (a : AgentId) : KeepsCredit s (s.resetSession a) := by
  unfold State.resetSession
  split
  · exact KeepsCredit.trans (t := s.modSession a _) (modSession_keepsCredit a) (placeNotice_keepsCredit ..)
  · exact .refl s

/-- Links keep what they hold, credit included, through a reset of the directory (R171). -/
theorem resetTables_keepsCredit (s : State) : KeepsCredit s s.resetTables := by
  unfold State.resetTables
  extract_lets s1 s2 s3 s4 s5
  have h1 : KeepsCredit s s1 := KeepsCredit.trans (t := s.setWaitList []) .of_parts (refuseEntries_keepsCredit ..)
  have h3 : KeepsCredit s s3 := h1.trans .of_parts
  have h4 : KeepsCredit s s4 := h3.trans (endSweep_keepsCredit ..)
  have h5 : KeepsCredit s s5 := h4.trans (foldl_keepsCredit resetSession_keepsCredit ..)
  clear_value s5
  exact h5.trans .of_parts

theorem runResetDirectory_keepsCredit (s : State) (body : List Byte) :
    AnswerKeepsCredit s (s.runResetDirectory body) :=
  answerHolds_unless fun _ => answerHolds_unless fun _ => resetTables_keepsCredit s

end

/-! ## Every command -/

/-- Every command but POWER_ON keeps both laws of credit. -/
theorem exec_keepsCredit {c : Instr} (hpower : c ≠ .powerOn) (s : State) :
    ∃ t, exec c s = .next t ∧ KeepsCredit s t := by
  cases c with
  | powerOn => exact absurd rfl hpower
  | millisecondTick => exact ⟨_, rfl, by split; exacts [.refl s, .of_parts]⟩
  | signalFound link => exact ⟨_, rfl, signalFound_keepsCredit s link⟩
  | signalLost link => exact ⟨_, rfl, signalLost_keepsCredit s link⟩
  | frameArrival a bytes => exact ⟨_, rfl, frameArrives_keepsCredit s a bytes⟩
  | join a => exact ⟨_, rfl, onAnswerable_keepsCredit s a (fun t => handleJoin_keepsCredit t a) .join⟩
  | acquire a => exact ⟨_, rfl, onAnswerable_keepsCredit s a (fun t => handleAcquire_keepsCredit t a) .acquire⟩
  | convert a => exact ⟨_, rfl, onAnswerable_keepsCredit s a (fun t => handleConvert_keepsCredit t a) .convert⟩
  | query a => exact ⟨_, rfl, onAnswerable_keepsCredit s a (fun t => handleQuery_keepsCredit t a) .query⟩
  | leave a => exact ⟨_, rfl, onAnswerable_keepsCredit s a (fun t => handleLeave_keepsCredit t a) .leave⟩
  | release a => exact ⟨_, rfl, onClosing_keepsCredit s a (fun t => handleRelease_keepsCredit t a) .release⟩
  | downgrade a => exact ⟨_, rfl, onClosing_keepsCredit s a (fun t => handleDowngrade_keepsCredit t a) .downgrade⟩
  | cancel a => exact ⟨_, rfl, onClosing_keepsCredit s a (fun t => handleCancel_keepsCredit t a) .cancel⟩
  | keepalive a => exact ⟨_, rfl, onClosing_keepsCredit s a (fun t _ => .refl t) .keepalive⟩
  | waitDeadline a tag => exact ⟨_, rfl, waitDeadlinePasses_keepsCredit s a tag⟩
  | recallDeadline slot => exact ⟨_, rfl, recallDeadlinePasses_keepsCredit s slot⟩
  | sessionLeaseExpiry a => exact ⟨_, rfl, leaseDeadlinePasses_keepsCredit s a⟩
  | sweepStep => exact ⟨_, rfl, sweepOnce_keepsCredit s⟩
  | agentLinkSend a => exact ⟨_, rfl, agentLinkSends_keepsCredit s a⟩
  | endOfTransmission link =>
    cases link with
    | agent a => exact ⟨_, rfl, modLink_keepsCredit a⟩
    | mgmt => exact ⟨_, rfl, modMgmt_keepsCredit⟩
  | mgmtFrameArrival bytes => exact ⟨_, rfl, mgmtFrameArrives_keepsCredit s bytes⟩
  | mgmtLinkSend => exact ⟨_, rfl, mgmtLinkSends_keepsCredit s⟩
  | reportAck => exact ⟨_, rfl, reportAckTaken_keepsCredit s⟩
  | configure => exact ⟨_, rfl, onCommand_keepsCredit runConfigure_keepsCredit s .configure⟩
  | setParam => exact ⟨_, rfl, onCommand_keepsCredit runSetParam_keepsCredit s .setParam⟩
  | admitAgent => exact ⟨_, rfl, onCommand_keepsCredit (onAgent_keepsCredit runAdmit_keepsCredit) s .admitAgent⟩
  | evict => exact ⟨_, rfl, onCommand_keepsCredit (onAgent_keepsCredit runEvict_keepsCredit) s .evict⟩
  | pause => exact ⟨_, rfl, onCommand_keepsCredit runPause_keepsCredit s .pause⟩
  | resume => exact ⟨_, rfl, onCommand_keepsCredit runResume_keepsCredit s .resume⟩
  | sweepStart => exact ⟨_, rfl, onCommand_keepsCredit runSweepStart_keepsCredit s .sweepStart⟩
  | sweepAbort => exact ⟨_, rfl, onCommand_keepsCredit runSweepAbort_keepsCredit s .sweepAbort⟩
  | queryExtent => exact ⟨_, rfl, onCommand_keepsCredit runQueryExtent_keepsCredit s .queryExtent⟩
  | queryAgent => exact ⟨_, rfl, onCommand_keepsCredit (onAgent_keepsCredit runQueryAgent_keepsCredit) s .queryAgent⟩
  | ackChurn => exact ⟨_, rfl, onCommand_keepsCredit (onAgent_keepsCredit runAckChurn_keepsCredit) s .ackChurn⟩
  | reportResume => exact ⟨_, rfl, onCommand_keepsCredit runReportResume_keepsCredit s .reportResume⟩
  | readCounters => exact ⟨_, rfl, onCommand_keepsCredit runReadCounters_keepsCredit s .readCounters⟩
  | resetDirectory => exact ⟨_, rfl, onCommand_keepsCredit runResetDirectory_keepsCredit s .resetDirectory⟩

/-- Every step keeps both laws of credit. -/
theorem step_keepsCredit {s t : State} (h : step s = .next t) : KeepsCredit s t := by
  unfold step at h
  split at h
  · obtain rfl := Host.Outcome.next.inj h
    exact .refl s
  · rename_i c rest _
    by_cases hpower : c = .powerOn
    · subst hpower
      obtain rfl := Host.Outcome.next.inj h
      exact ⟨fun _ => reset_ingressLaw, fun _ => reset_egressLaw⟩
    · obtain ⟨u, hexec, hkeeps⟩ := exec_keepsCredit hpower { s with pending := rest }
      obtain rfl : u = t := Host.Outcome.next.inj (hexec.symm.trans h)
      have hqueue : KeepsCredit s { s with pending := rest } := .of_parts
      exact hqueue.trans hkeeps

end Sys2Proof.Laws
end

section
/-!
The statement about credit.
-/

namespace Sys2Proof.Proofs

open Sys2Proof.Machine Sys2Proof.Safety Sys2Proof.Laws

/-- Settles O7: each change of an ingress account moves credit between its three places, and egress credit is set and raised
only up to its window. -/
theorem creditStaysAccounted : Obligations.CreditStaysAccounted := fun _ _ hstep =>
  ⟨(step_keepsCredit hstep).ingress, (step_keepsCredit hstep).egress⟩

end Sys2Proof.Proofs
end

section
/-!
SUPPORT. A frame that arrives on LI-M in RUN, and a good SYNC there (R154, R156).
-/

namespace Sys2Proof.Laws

-- One lemma at a time: checked at once, so many would start more threads than the memory limit of check.sh allows.
set_option Elab.async false

open Sys2Proof.Machine Sys2Proof.Safety

section
variable {s : State} {bytes : List Byte} {f : RawFrame}

theorem mgmtLinkError_eq (s : State) (cause : LinkCause) : s.mgmtLinkError cause =
    logged { s with mgmtLink := mgmtCutOff s.mgmtLink .waitSync } (.linkState .mgmt .waitSync cause) := rfl

/-! ## The class of a kind (R179) -/

theorem mgmtClass_sync {code : Nat} (h : code = kindSync) : mgmtClass code = .sync := if_pos h

/-- Every kind but SYNC is charged to the command class. -/
theorem mgmtClass_charged {code : Nat} (h : code ≠ kindSync) :
    (∃ k, mgmtClass code = .command k) ∨ mgmtClass code = .unknown := by
  rw [mgmtClass, if_neg h]
  cases CommandKind.ofCode code with
  | none => exact .inr rfl
  | some k => exact .inl ⟨k, rfl⟩

/-! ## The checks in RUN (R154) -/

theorem exec_mgmtFrameArrival_run (h : s.mgmtLink.linkState = .run) :
    exec (.mgmtFrameArrival bytes) s = .next (s.mgmtArrivesInRun bytes) := by
  simp only [exec, execMgmtFrameArrival, State.mgmtFrameArrives, h]

theorem mgmtArrivesInRun_framingFault (h : checkFrame bytes = .framingFault) :
    s.mgmtArrivesInRun bytes = s.mgmtLinkError .framingError := by
  simp only [State.mgmtArrivesInRun, h]

theorem mgmtArrivesInRun_crcFailure (h : checkFrame bytes = .crcFailure) :
    s.mgmtArrivesInRun bytes = s.mgmtCrcFailure.mgmtLinkError .crcError := by
  simp only [State.mgmtArrivesInRun, h]

theorem mgmtArrivesInRun_sync (h : checkFrame bytes = .wellFormed f) (hk : f.kind = kindSync) :
    s.mgmtArrivesInRun bytes = s.mgmtSyncArrives f := by
  simp only [State.mgmtArrivesInRun, h, mgmtClass_sync hk]

theorem mgmtArrivesInRun_command {k : CommandKind} (h : checkFrame bytes = .wellFormed f)
    (hk : mgmtClass f.kind = .command k) : s.mgmtArrivesInRun bytes = s.commandArrives k f := by
  simp only [State.mgmtArrivesInRun, h, hk]

theorem mgmtArrivesInRun_unknown (h : checkFrame bytes = .wellFormed f) (hk : mgmtClass f.kind = .unknown) :
    s.mgmtArrivesInRun bytes = s.mgmtUnknownArrives f := by
  simp only [State.mgmtArrivesInRun, h, hk]

/-! ## Credit, and the command buffer (R154, R155) -/

/-- Without credit a frame of any kind but SYNC is a credit overrun. -/
theorem mgmtArrivesInRun_overrun (h : checkFrame bytes = .wellFormed f) (hk : f.kind ≠ kindSync)
    (hnone : s.mgmtLink.command.outstanding = 0) :
    s.mgmtArrivesInRun bytes = s.mgmtLinkError .creditOverrun := by
  rcases mgmtClass_charged hk with ⟨k, hcommand⟩ | hunknown
  · rw [mgmtArrivesInRun_command h hcommand]
    exact if_pos hnone
  · rw [mgmtArrivesInRun_unknown h hunknown]
    exact if_pos hnone

theorem commandArrives_credit (k : CommandKind) (h : 0 < s.mgmtLink.command.outstanding) :
    s.commandArrives k f = { s with mgmtLink := { s.mgmtLink with
      command := s.mgmtLink.command.buffer { kind := k, tag := f.tag, epoch := f.epoch, body := f.body }
      reportCredit := min (s.mgmtLink.reportCredit + f.creditX) s.params.reportWindow } } := if_neg h.ne'

theorem mgmtUnknownArrives_credit (h : 0 < s.mgmtLink.command.outstanding) :
    s.mgmtUnknownArrives f = ({ s with mgmtLink := { s.mgmtLink with
      command := s.mgmtLink.command.discardArrival
      reportCredit := min (s.mgmtLink.reportCredit + f.creditX) s.params.reportWindow } } :
        State).mgmtProtocolError .unknownKind f.kind := if_neg h.ne'

/-! ## SYNC (R156) -/

theorem mgmtSyncArrives_good (h : f.body.length = 1) : s.mgmtSyncArrives f = s.mgmtGoodSync (field f.body 0 1) :=
  if_neg (not_not.mpr h)

/-- A SYNC is acted on in WAIT_SYNC and in RUN alike. -/
theorem exec_mgmtFrameArrival_sync (hstate : s.mgmtLink.linkState ≠ .down) (h : checkFrame bytes = .wellFormed f)
    (hk : f.kind = kindSync) : exec (.mgmtFrameArrival bytes) s = .next (s.mgmtSyncArrives f) := by
  cases hl : s.mgmtLink.linkState with
  | down => exact absurd hl hstate
  | waitSync => rw [exec_mgmtFrameArrival_waitSync hl, mgmtArrivesInWaitSync_sync h hk]
  | run => rw [exec_mgmtFrameArrival_run hl, mgmtArrivesInRun_sync h hk]

/-- LI-M once a good SYNC has rebuilt it. -/
theorem mgmtSynced_eq {l : MgmtLink} (h : l.linkState ≠ .down) (reportWindow count : Nat) :
    l.synced reportWindow count =
      { l with
        linkState := .run
        command := l.command.rebuild Config.commandCapacity
        reportCredit := min count reportWindow
        syncAck := some (Config.commandCapacity - l.command.frames.length)
        turn := if l.linkState = .waitSync then .reply else l.turn } := by
  unfold MgmtLink.synced
  cases hl : l.linkState with
  | down => exact absurd hl h
  | waitSync => rfl
  | run =>
    rw [if_neg nofun, if_neg nofun, ← hl]
    rfl

theorem mgmtGoodSync_eq (s : State) (count : Nat) : s.mgmtGoodSync count =
    { s with
      reportQueue :=
        if s.mgmtLink.linkState = .waitSync then s.reportQueue.append (.linkState .mgmt .run .sync) else s.reportQueue
      mgmtLink := s.mgmtLink.synced s.params.reportWindow count } := by
  unfold State.mgmtGoodSync
  by_cases hwait : s.mgmtLink.linkState = .waitSync
  · rw [if_pos hwait, if_pos hwait]
    rfl
  · rw [if_neg hwait, if_neg hwait]
    rfl

end

end Sys2Proof.Laws
end

section
/-!
The statements about frames that arrive on LI-M.
-/

namespace Sys2Proof.Proofs

open Sys2Proof.Machine Sys2Proof.Safety Sys2Proof.Laws

/-- Settles O25: one case for each check of R154, and a charged kind buffered or returned. -/
theorem mgmtFramesInRun : Obligations.MgmtFramesInRun := by
  intro s bytes hrun l cut erring
  rw [exec_mgmtFrameArrival_run hrun]
  refine ⟨fun hfault => ?_, fun hcrc => ?_, fun f hcheck =>
    ⟨fun hk hnone => ?_, fun k hk hcredit => ?_, fun hk hcredit => ?_, fun hk hbody => ?_⟩⟩
  · rw [mgmtArrivesInRun_framingFault hfault, mgmtLinkError_eq]
  · rw [mgmtArrivesInRun_crcFailure hcrc, mgmtCrcFailure_eq, mgmtLinkError_eq]
    rfl
  · rw [mgmtArrivesInRun_overrun hcheck hk hnone, mgmtLinkError_eq]
  · rw [mgmtArrivesInRun_command hcheck hk, commandArrives_credit k hcredit]
    rfl
  · rw [mgmtArrivesInRun_unknown hcheck hk, mgmtUnknownArrives_credit hcredit, mgmtProtocolError_eq]
    rfl
  · rw [mgmtArrivesInRun_sync hcheck hk, mgmtSyncArrives_badLength hbody, mgmtProtocolError_eq]

/-- Settles O26: the report appended and the link rebuilt, each part by its own equation. -/
theorem mgmtGoodSyncRebuilds : Obligations.MgmtGoodSyncRebuilds := by
  intro s bytes f hstate hcheck hk hbody l entering
  rw [exec_mgmtFrameArrival_sync hstate hcheck hk, mgmtSyncArrives_good hbody, mgmtGoodSync_eq, mgmtSynced_eq hstate]
  rfl

end Sys2Proof.Proofs
end

section
/-!
SUPPORT. The arbiter of LI-M: what it chooses (R158), and what the send of each choice leaves (R155, R175).
-/

namespace Sys2Proof.Laws

set_option Elab.async false

open Sys2Proof.Machine Sys2Proof.Safety

section
variable {s : State}

/-! ## The head of the Report Queue (R173, R175) -/

theorem head_report {q : ReportQueue} {r : Report} {rest : List Report} (h : q.reports = r :: rest) :
    q.head = some (.report r) := by
  simp only [ReportQueue.head, h]

theorem head_overflow {q : ReportQueue} (hreports : q.reports = []) (hmarker : q.marker = true) :
    q.head = some (.overflow q.lost) := by
  simp only [ReportQueue.head, hreports, hmarker, if_true]

theorem head_none {q : ReportQueue} (h : ¬(q.reports ≠ [] ∨ q.marker = true)) : q.head = none := by
  obtain ⟨hreports, hmarker⟩ := not_or.mp h
  simp only [ReportQueue.head, not_not.mp hreports, if_neg hmarker]

theorem dropHead_report {q : ReportQueue} {r : Report} {rest : List Report} (h : q.reports = r :: rest) :
    q.dropHead = { q with reports := rest } := by
  simp only [ReportQueue.dropHead, h]

theorem dropHead_overflow {q : ReportQueue} (h : q.reports = []) : q.dropHead = { q with marker := false } := by
  simp only [ReportQueue.dropHead, h]

/-! ## The arbiter's choice (R158) -/

/-- There is something in the queue and report credit to send it with. -/
abbrev ReportReady (s : State) : Prop :=
  0 < s.mgmtLink.reportCredit ∧ (s.reportQueue.reports ≠ [] ∨ s.reportQueue.marker = true)

theorem reportLane_credit (h : 0 < s.mgmtLink.reportCredit) : s.reportLane = s.reportQueue.head := if_pos h

theorem reportLane_none (h : ¬ReportReady s) : s.reportLane = none := by
  unfold State.reportLane
  split
  · rename_i hcredit
    exact head_none fun hready => h ⟨hcredit, hready⟩
  · rfl

theorem mgmtChoice_syncAck {n : Nat} (h : s.mgmtLink.syncAck = some n) : s.mgmtChoice = some (.syncAck n) := by
  simp only [State.mgmtChoice, h]

/-- A REPLY goes if the turn names it or the report lane is not ready. -/
theorem mgmtChoice_reply {r : MgmtReply} {rest : List MgmtReply} (hack : s.mgmtLink.syncAck = none)
    (hfilled : s.mgmtLink.replies.filled = r :: rest) (hturn : s.mgmtLink.turn = .reply ∨ ¬ReportReady s) :
    s.mgmtChoice = some (.reply r) := by
  simp only [State.mgmtChoice, hack, hfilled, List.head?_cons]
  rcases hturn with hreply | hnot
  · cases s.reportLane with
    | none => rfl
    | some h => exact if_pos hreply
  · rw [reportLane_none hnot]

/-- A REPORT goes if the turn names it or no REPLY waits. -/
theorem mgmtChoice_report {h : QueueHead} (hack : s.mgmtLink.syncAck = none) (hlane : s.reportLane = some h)
    (hturn : s.mgmtLink.replies.filled = [] ∨ s.mgmtLink.turn = .report) : s.mgmtChoice = some (.report h) := by
  simp only [State.mgmtChoice, hack, hlane]
  rcases hturn with hnone | hreport
  · rw [hnone, List.head?_nil]
  · cases s.mgmtLink.replies.filled with
    | nil => rfl
    | cons r rest => simp [hreport]

/-- With no SYNC_ACK, REPLY or REPORT to send, there is a CREDIT frame or nothing. -/
theorem mgmtChoice_credit (hack : s.mgmtLink.syncAck = none) (hfilled : s.mgmtLink.replies.filled = [])
    (hnot : ¬ReportReady s) :
    s.mgmtChoice = if 0 < s.mgmtLink.command.toReturn then some .credit else none := by
  simp only [State.mgmtChoice, hack, hfilled, reportLane_none hnot, List.head?_nil]

theorem exec_mgmtLinkSend {choice : MgmtSend} (hrun : s.mgmtLink.linkState = .run)
    (hidle : s.mgmtLink.transmitter = .idle) (h : s.mgmtChoice = some choice) :
    exec .mgmtLinkSend s = .next (s.mgmtSends choice) := by
  simp only [exec, execMgmtLinkSend, State.mgmtLinkSends, if_pos (And.intro hrun hidle), h]

/-- A send with nothing to send (assumption 2). -/
theorem exec_mgmtLinkSend_nothing (h : s.mgmtChoice = none) : exec .mgmtLinkSend s = .next s := by
  simp only [exec, execMgmtLinkSend, State.mgmtLinkSends, h, ite_self]

/-! ## What a send leaves (R155, R175) -/

/-- LI-M once it has put `bytes` on the line with its credit returns in their header (R147, R155). -/
def sendingMgmtLink (l : MgmtLink) (bytes : List Byte) : MgmtLink :=
  { l with command := l.command.giveBack, transmitter := .busy bytes }

theorem mgmtSends_syncAck (n : Nat) : s.mgmtSends (.syncAck n) =
    { s with mgmtLink := { sendingMgmtLink s.mgmtLink (s.mgmtFrameBytes (.syncAck n)) with syncAck := none } } := rfl

/-- A sent REPLY that is not OK is counted (R153). -/
theorem mgmtSends_reply (r : MgmtReply) : s.mgmtSends (.reply r) =
    { s with mgmtLink := { sendingMgmtLink s.mgmtLink (s.mgmtFrameBytes (.reply r)) with
      replies := s.mgmtLink.replies.sendHead
      turn := .report
      counters := if r.status = .ok then s.mgmtLink.counters else s.mgmtLink.counters.addRefused } } := by
  unfold State.mgmtSends State.leaveMgmtLane
  dsimp only
  by_cases hok : r.status = .ok
  · rw [if_pos hok, if_pos hok]
    rfl
  · rw [if_neg hok, if_neg hok]
    rfl

theorem mgmtSends_report (h : QueueHead) : s.mgmtSends (.report h) =
    { s with
      mgmtLink := { sendingMgmtLink s.mgmtLink (s.mgmtFrameBytes (.report h)) with
        reportCredit := s.mgmtLink.reportCredit - 1, turn := .reply }
      reportQueue := s.reportQueue.dropHead } := rfl

theorem mgmtSends_credit : s.mgmtSends .credit =
    { s with mgmtLink := sendingMgmtLink s.mgmtLink (s.mgmtFrameBytes .credit) } := rfl

end

end Sys2Proof.Laws
end

section
/-!
The statement about the sends of LI-M.
-/

namespace Sys2Proof.Proofs

open Sys2Proof.Machine Sys2Proof.Safety Sys2Proof.Laws

/-- Settles O27: the arbiter's choice in each case, and what its send leaves. -/
theorem mgmtLinkSends : Obligations.MgmtLinkSends := by
  intro s hrun hidle l q returned frame reportReady
  refine ⟨fun n hack => ?_, fun r rest hack hfilled hturn => ?_, fun r rest hack hreports hcredit hturn => ?_,
    fun hack hreports hmarker hcredit hturn => ?_, fun hack hfilled hnot => ?_⟩
  · rw [exec_mgmtLinkSend hrun hidle (mgmtChoice_syncAck hack), mgmtSends_syncAck]
    rfl
  · have htail : s.mgmtLink.replies.filled.tail = rest := congrArg List.tail hfilled
    rw [exec_mgmtLinkSend hrun hidle (mgmtChoice_reply hack hfilled hturn), mgmtSends_reply, ReplyArea.sendHead, htail]
    rfl
  · have hlane : s.reportLane = some (.report r) := (reportLane_credit hcredit).trans (head_report hreports)
    rw [exec_mgmtLinkSend hrun hidle (mgmtChoice_report hack hlane hturn), mgmtSends_report, dropHead_report hreports]
    rfl
  · have hlane : s.reportLane = some (.overflow q.lost) :=
      (reportLane_credit hcredit).trans (head_overflow hreports hmarker)
    rw [exec_mgmtLinkSend hrun hidle (mgmtChoice_report hack hlane hturn), mgmtSends_report, dropHead_overflow hreports]
    rfl
  · have hchoice := mgmtChoice_credit hack hfilled hnot
    by_cases hreturn : 0 < l.command.toReturn
    · rw [if_pos hreturn] at hchoice ⊢
      rw [exec_mgmtLinkSend hrun hidle hchoice, mgmtSends_credit]
      rfl
    · rw [if_neg hreturn] at hchoice ⊢
      exact exec_mgmtLinkSend_nothing hchoice

end Sys2Proof.Proofs
end

section
/-!
SUPPORT. What every command comes to, by what its rule answers: refused, or carried out and answered (R157, R159).
-/

namespace Sys2Proof.Laws

set_option Elab.async false

open Sys2Proof.Machine Sys2Proof.Safety

section
variable {s : State} {k : CommandKind} {f : Frame CommandKind} {rest : List (Frame CommandKind)}
variable {act : State → List Byte → Answer}

theorem afterTakingCommand_eq (h : CommandHead s k f rest) : s.afterTakingCommand = commandTaken s rest :=
  afterTakingCommand_head h

/-- A refused command changes nothing but the taking and the REPLY. -/
theorem onCommand_refused {status : Status} (h : CommandHead s k f rest)
    (hrun : act (commandTaken s rest) f.body = .refuse status) :
    s.onCommand k act = commanded s rest (refusedReply f.tag status) := by
  rw [onCommand_head act h, ← answer_refuse h, afterTakingCommand_eq h, hrun]

theorem onCommand_done {t : State} {result : MgmtResult} (h : CommandHead s k f rest)
    (hrun : act (commandTaken s rest) f.body = .done t result) :
    s.onCommand k act = mgmtReplied t { tag := f.tag, status := .ok, result := result } := by
  rw [onCommand_head act h, afterTakingCommand_eq h, hrun]
  rfl

end

/-! ## A command on one agent (R165, R168) -/

section
variable {s : State} {body : List Byte} (act : State → AgentId → Answer)

theorem onAgent_badLength (h : body.length ≠ 1) : State.onAgent act s body = .refuse .badParam := by
  simp only [State.onAgent, agentByte, if_neg h]

theorem agentOf_none {n : Nat} (h : 7 < n) : agentOf n = none := dif_neg (by omega)

theorem onAgent_badAgent (hlength : body.length = 1) (h : 7 < field body 0 1) :
    State.onAgent act s body = .refuse .badAgent := by
  simp only [State.onAgent, agentByte, if_pos hlength, agentOf_none h]

theorem onAgent_agent {a : AgentId} (hlength : body.length = 1) (h : field body 0 1 = a.val) :
    State.onAgent act s body = act s a := by
  simp only [State.onAgent, agentByte, if_pos hlength, h, agentOf_val]

end

/-! ## EVICT (R97) -/

section
variable {s : State} {a : AgentId}

theorem runEvict_inactive (h : isActive (s.session a).state = false) :
    s.runEvict a = .done (withSession s a { s.session a with admitFlag := false }) .empty := by
  unfold State.runEvict
  dsimp only
  split
  · rename_i d hd
    simp [hd, isActive] at h
  · rfl

/-- The fencing acts on the state with the `admitFlag` cleared, and its one walk comes last. -/
theorem runEvict_active (hi : IndexLaw s) (h : isActive (s.session a).state = true) :
    s.runEvict a =
      .done (fenced (withSession s a { s.session a with admitFlag := false }) a .evicted).reevaluate .empty := by
  obtain ⟨d, hd⟩ := (isActive_iff _).mp h
  obtain ⟨-, hslots, -⟩ := hi
  rw [← fence_eq (withSession s a { s.session a with admitFlag := false }) a .evicted hslots]
  unfold State.runEvict
  dsimp only
  split
  · rfl
  · rename_i hinactive
    exact absurd hd (hinactive d)

end

/-! ## PAUSE and RESUME (R161) -/

/-- What PAUSE and RESUME share: a move of the directory from `source` to `target`. -/
def movesDirectory (source target : DirectoryState) (s : State) (body : List Byte) : Answer :=
  if s.management.state ≠ source then .refuse .wrongState
  else if body.length ≠ 0 then .refuse .badParam
  else .done (s.setDirectory target) .empty

theorem exec_pause_eq (s : State) :
    exec .pause s = .next (s.onCommand .pause (movesDirectory .running .paused)) := rfl

theorem exec_resume_eq (s : State) :
    exec .resume s = .next (s.onCommand .resume (movesDirectory .paused .running)) := rfl

section
variable {source target : DirectoryState} {s : State} {body : List Byte}

theorem movesDirectory_wrongState (h : s.management.state ≠ source) :
    movesDirectory source target s body = .refuse .wrongState := if_pos h

theorem movesDirectory_badParam (hstate : s.management.state = source) (h : body ≠ []) :
    movesDirectory source target s body = .refuse .badParam := by
  rw [movesDirectory, if_neg (not_not.mpr hstate), if_pos (mt List.length_eq_zero_iff.mp h)]

theorem movesDirectory_done (hstate : s.management.state = source) (h : body = []) :
    movesDirectory source target s body = .done (s.setDirectory target) .empty := by
  subst h
  exact if_neg (not_not.mpr hstate)

end

/-! ## QUERY_EXTENT and QUERY_AGENT (R167, R168) -/

section
variable {s : State} {body : List Byte}

theorem runQueryExtent_wrongState (h : s.management.state = .unconfigured) :
    s.runQueryExtent body = .refuse .wrongState := if_pos h

section
variable (hm : s.management.state ≠ .unconfigured)
include hm

theorem runQueryExtent_badLength (h : body.length ≠ 15) : s.runQueryExtent body = .refuse .badParam := by
  simp only [State.runQueryExtent, if_neg hm, queryFields, if_neg h]

variable (hlength : body.length = 15)
include hlength

theorem runQueryExtent_badExtent (h : (extentField body 0).valid s.params.volume = false) :
    s.runQueryExtent body = .refuse .badExtent := by
  simp only [State.runQueryExtent, if_neg hm, queryFields, if_pos hlength, h, Bool.not_false, if_true]

theorem runQueryExtent_answers (h : (extentField body 0).valid s.params.volume = true) :
    s.runQueryExtent body = .done s (.extent (s.walkDescriptors (extentField body 0) (field body 9 6))
      (s.walkHasMore (extentField body 0) (field body 9 6))) := by
  simp only [State.runQueryExtent, if_neg hm, queryFields, if_pos hlength, h, Bool.not_true, Bool.false_eq_true,
    if_false]

end

/-- The entries an agent has waiting, counted where they stand (R168). -/
theorem length_entriesOf (s : State) (a : AgentId) :
    (s.entriesOf a).length = s.waitList.countP fun e => e.agent = a := List.countP_eq_length_filter.symm

end

/-! ## REPORT_RESUME and REPORT_ACK (R157, R176, R182) -/

section
variable {s : State} {body : List Byte}

theorem runReportResume_badParam (h : body ≠ []) : s.runReportResume body = .refuse .badParam :=
  if_pos (mt List.length_eq_zero_iff.mp h)

/-- The queue becomes ACCEPTING with the reports it holds, and the lost count is given and cleared. -/
theorem runReportResume_suspended (hbody : body = []) (h : s.reportQueue.suspended = true) :
    s.runReportResume body =
      .done
        { s with reportQueue := { reports := s.reportQueue.reports, marker := false, suspended := false, lost := 0 } }
        (.lost s.reportQueue.lost) := by
  rw [State.runReportResume, if_neg (not_not.mpr (List.length_eq_zero_iff.mpr hbody)), if_pos h]

theorem runReportResume_accepting (hbody : body = []) (h : s.reportQueue.suspended = false) :
    s.runReportResume body = .done s (.lost 0) := by
  rw [State.runReportResume, if_neg (not_not.mpr (List.length_eq_zero_iff.mpr hbody)),
    if_neg (Bool.not_eq_true _ ▸ h)]

/-- REPORT_ACK leaves the buffer without a slot; a body is the protocol error BAD_LENGTH. -/
theorem reportAckTaken_head {f : Frame CommandKind} {rest : List (Frame CommandKind)}
    (hframes : s.mgmtLink.command.frames = f :: rest) (hkind : f.kind = .reportAck)
    (hrun : s.mgmtLink.linkState = .run) :
    s.reportAckTaken =
      if f.body.length = 0 then
        { s with mgmtLink := { s.mgmtLink with command := leftBuffer s.mgmtLink.command rest } }
      else
        ({ s with mgmtLink := { s.mgmtLink with command := leftBuffer s.mgmtLink.command rest } } :
          State).mgmtProtocolError .badLength kindReportAck := by
  have htaken : s.mgmtLink.command.takeHead = leftBuffer s.mgmtLink.command rest := by
    rw [Ingress.takeHead, hframes]
    rfl
  simp only [State.reportAckTaken, hframes, if_pos (And.intro hkind hrun), State.modMgmt, htaken]

end

end Sys2Proof.Laws
end

section
/-!
The statements about the commands on one agent, on the directory state and on the Report Queue, and about the queries.
-/

namespace Sys2Proof.Proofs

open Sys2Proof.Machine Sys2Proof.Safety Sys2Proof.Laws

/-- Settles O55: one rule for both commands, with the two directory states exchanged. -/
theorem pauseAndResume : Obligations.PauseAndResume := by
  intro s k f rest hhead hk source target refusing
  have hexec : exec (managementCommand k) s = .next (s.onCommand k (movesDirectory source target)) := by
    rcases hk with rfl | rfl
    · exact exec_pause_eq s
    · exact exec_resume_eq s
  refine ⟨fun hstate => ?_, fun hstate hbody => ?_, fun hstate hbody => ?_⟩
  · exact hexec.trans (congrArg _ (onCommand_refused hhead (movesDirectory_wrongState hstate)))
  · exact hexec.trans (congrArg _ (onCommand_refused hhead (movesDirectory_badParam hstate hbody)))
  · exact hexec.trans (congrArg _ (onCommand_done hhead (movesDirectory_done hstate hbody)))

/-- Settles O54: the two refusals are those of every command on one agent; each effect is that of its own rule. -/
theorem agentCommandsActOnOne : Obligations.AgentCommandsActOnOne := by
  intro s k f rest hhead hk refusing
  obtain ⟨act, hexec⟩ : ∃ act, exec (managementCommand k) s = .next (s.onCommand k (State.onAgent act)) := by
    rcases hk with rfl | rfl | rfl
    · exact ⟨State.runAdmit, rfl⟩
    · exact ⟨State.runEvict, rfl⟩
    · exact ⟨State.runAckChurn, rfl⟩
  refine ⟨fun hlength => ?_, fun hlength hagent => ?_, ?_⟩
  · exact hexec.trans (congrArg _ (onCommand_refused hhead (onAgent_badLength act hlength)))
  · exact hexec.trans (congrArg _ (onCommand_refused hhead (onAgent_badAgent act hlength hagent)))
  · intro a hlength hagent x done
    refine ⟨?_, ?_, ?_, ?_⟩
    · rintro rfl
      exact congrArg Host.Outcome.next (onCommand_done hhead (onAgent_agent State.runAdmit hlength hagent))
    · rintro rfl hinactive
      have hrun := (onAgent_agent State.runEvict hlength hagent).trans
        (runEvict_inactive (s := commandTaken s rest) hinactive)
      exact congrArg Host.Outcome.next (onCommand_done hhead hrun)
    · rintro rfl hactive hindex
      have hrun := (onAgent_agent State.runEvict hlength hagent).trans
        (runEvict_active (s := commandTaken s rest) hindex hactive)
      exact congrArg Host.Outcome.next (onCommand_done hhead hrun)
    · rintro rfl
      exact congrArg Host.Outcome.next (onCommand_done hhead (onAgent_agent State.runAckChurn hlength hagent))

/-- Settles O56: the tests in order, and answers read from a state in which only LI-M has changed. -/
theorem managementQueriesAnswered : Obligations.ManagementQueriesAnswered := by
  intro s f rest answering
  refine ⟨fun hhead => ?_, fun hhead => ⟨fun hlength => ?_, fun hlength hagent => ?_, ?_⟩⟩
  · intro x p
    refine ⟨fun hm => ?_, fun hm => ⟨fun hlength => ?_, fun hlength => ⟨fun hinvalid => ?_, fun hvalid => ?_⟩⟩⟩
    · exact congrArg Host.Outcome.next (onCommand_refused hhead (runQueryExtent_wrongState hm))
    · exact congrArg Host.Outcome.next (onCommand_refused hhead (runQueryExtent_badLength hm hlength))
    · exact congrArg Host.Outcome.next (onCommand_refused hhead (runQueryExtent_badExtent hm hlength hinvalid))
    · exact congrArg Host.Outcome.next (onCommand_done hhead (runQueryExtent_answers hm hlength hvalid))
  · exact congrArg Host.Outcome.next (onCommand_refused hhead (onAgent_badLength State.runQueryAgent hlength))
  · exact congrArg Host.Outcome.next (onCommand_refused hhead (onAgent_badAgent State.runQueryAgent hlength hagent))
  · intro a hlength hagent x m mine alarmed info
    have hinfo : (commandTaken s rest).agentInfo a = info := by
      rw [State.agentInfo, length_entriesOf, groupAlarm_eq_decide, groupAlarm_eq_decide]
      rfl
    have hrun : State.onAgent State.runQueryAgent (commandTaken s rest) f.body = .done _ (.agent info) :=
      (onAgent_agent State.runQueryAgent hlength hagent).trans (by rw [State.runQueryAgent, hinfo])
    exact congrArg Host.Outcome.next (onCommand_done hhead hrun)

/-- Settles O58: the lost count is read before it is cleared, and a REPORT_ACK needs no reply slot. -/
theorem reportsResumedAndAcknowledged : Obligations.ReportsResumedAndAcknowledged := by
  intro s f rest
  refine ⟨fun hhead => ⟨fun hbody => ?_, fun hbody hsuspended => ?_, fun hbody haccepting => ?_⟩,
    fun hframes hkind hrun => ?_⟩
  · exact congrArg Host.Outcome.next (onCommand_refused hhead (runReportResume_badParam hbody))
  · have hresumed := runReportResume_suspended (s := commandTaken s rest) hbody hsuspended
    exact congrArg Host.Outcome.next (onCommand_done hhead hresumed)
  · have hresumed := runReportResume_accepting (s := commandTaken s rest) hbody haccepting
    exact congrArg Host.Outcome.next (onCommand_done hhead hresumed)
  · have hexec : exec .reportAck s = .next s.reportAckTaken := rfl
    rw [hexec, reportAckTaken_head hframes hkind hrun]
    refine ⟨fun hbody => ?_, fun hbody => ?_⟩
    · rw [if_pos (List.length_eq_zero_iff.mpr hbody)]
    · rw [if_neg (mt List.length_eq_zero_iff.mp hbody), mgmtProtocolError_eq]
      rfl

end Sys2Proof.Proofs
end

section
/-!
SUPPORT. SET_PARAM: its tests in order, and what each parameter's setting leaves (R124, R125, R163, R164).
-/

namespace Sys2Proof.Laws

set_option Elab.async false

open Sys2Proof.Machine Sys2Proof.Safety

/-! ## Every agent's value changed -/

theorem ofFn_get {α : Type} (f : AgentId → α) (a : AgentId) : PerAgent.get ⟨Vector.ofFn f⟩ a = f a := by
  simp [PerAgent.get]

/-- Each agent's value changed once, in the order of the agent numbers. -/
theorem foldl_modify_allAgents {α : Type} (f : AgentId → α → α) (p : PerAgent α) :
    allAgents.foldl (fun p a => p.modify a (f a)) p = ⟨Vector.ofFn fun a : Fin 8 => f a (p.get a)⟩ := by
  apply PerAgent.ext_get
  intro b
  rw [foldl_modify_get f b p (by decide), if_pos (mem_allAgents b), ofFn_get]

/-- A change that leaves the value it meets leaves everything. -/
theorem modify_eq_self {α : Type} {p : PerAgent α} {a : AgentId} {f : α → α} (h : f (p.get a) = p.get a) :
    p.modify a f = p := (congrArg (p.set a) h).trans (p.set_get a)

/-- Every churn record of a group's members with its window empty, and the others as they are (R124). -/
def windowsCleared (s : State) (g : GroupId) : PerAgent ChurnMember :=
  ⟨Vector.ofFn fun a : Fin 8 => if (s.session a).group = g then { s.member a with window := [] } else s.member a⟩

/-- A window cleared if its agent is a member of the group. -/
def clearedMember (s : State) (g : GroupId) (a : AgentId) (m : ChurnMember) : ChurnMember :=
  if (s.session a).group = g then { m with window := [] } else m

/-- The clearing does not touch the sessions, so it asks each agent's group of the state it began with. -/
theorem foldl_clearWindow (g : GroupId) : ∀ (l : List AgentId) (s : State),
    l.foldl (fun t a => if (t.session a).group = g then t.clearWindow a else t) s =
      { s with churn := { s.churn with
        members := l.foldl (fun p a => p.modify a (clearedMember s g a)) s.churn.members } }
  | [], _ => rfl
  | a :: l, s => by
    have hstep : (if (s.session a).group = g then s.clearWindow a else s) =
        { s with churn := { s.churn with members := s.churn.members.modify a (clearedMember s g a) } } := by
      by_cases hgroup : (s.session a).group = g
      · have hcleared : clearedMember s g a = fun m => { m with window := [] } := funext fun _ => if_pos hgroup
        rw [if_pos hgroup, hcleared]
        rfl
      · have hsame : s.churn.members.modify a (clearedMember s g a) = s.churn.members :=
          modify_eq_self (if_neg hgroup)
        rw [if_neg hgroup, hsame]
    rw [List.foldl_cons, hstep, foldl_clearWindow g l]
    rfl

theorem clearGroupWindows_eq (s : State) (g : GroupId) :
    s.clearGroupWindows g = { s with churn := { s.churn with members := windowsCleared s g } } := by
  rw [State.clearGroupWindows, foldl_clearWindow, foldl_modify_allAgents]
  rfl

/-! ## The group a number names -/

theorem groupOf_val : ∀ g : GroupId, groupOf g.val = some g := by decide

theorem groupOf_none {n : Nat} (h : 1 < n) : groupOf n = none := by
  rw [groupOf, if_neg (by omega), if_neg (by omega)]

/-! ## The tests of SET_PARAM, in order (R163) -/

section
variable {s : State} {body : List Byte}

theorem runSetParam_wrongState (h : s.management.state = .unconfigured) :
    s.runSetParam body = .refuse .wrongState := if_pos h

theorem runSetParam_badLength (hm : s.management.state ≠ .unconfigured) (h : body.length ≠ 10) :
    s.runSetParam body = .refuse .badParam := by
  simp only [State.runSetParam, if_neg hm, setParamFields, if_neg h]

/-- A body of the right length comes to the one parameter its identifier names. -/
theorem runSetParam_fields {id : Nat} (hm : s.management.state ≠ .unconfigured) (hlength : body.length = 10)
    (hid : field body 0 1 = id) : s.runSetParam body = s.setOneParam
      { identifier := id, selector := field body 1 1, value := field body 2 8 } := by
  simp only [State.runSetParam, if_neg hm, setParamFields, if_pos hlength, hid]

theorem setOneParam_unknown {q : SetParamFields} (h : q.identifier = 0 ∨ 9 < q.identifier) :
    s.setOneParam q = .refuse .badParam := by
  unfold State.setOneParam
  split
  case h_10 => rfl
  all_goals omega

end

section
variable {s : State} {selector value : Nat}

/-! ## V, L, T_r and N_r (R163, R164) -/

theorem volumeInRange_iff : volumeInRange value = true ↔ 1 ≤ value ∧ value ≤ 2 ^ 48 := by
  simp [volumeInRange, Config.blockLimit]

theorem leaseInRange_iff : leaseInRange value = true ↔ 50 ≤ value ∧ value ≤ 60000 := by simp [leaseInRange]

theorem recallTimeoutInRange_iff : recallTimeoutInRange value = true ↔ 5 ≤ value ∧ value ≤ 10000 := by
  simp [recallTimeoutInRange]

theorem attemptLimitInRange_iff : attemptLimitInRange value = true ↔ 1 ≤ value ∧ value ≤ 8 := by
  simp [attemptLimitInRange]

theorem usesBeyond_iff : s.usesBeyond value = true ↔
    (∃ r ∈ s.grantTable.records, value < r.extent.start + r.extent.length) ∨
      ∃ e ∈ s.waitList, value < e.extent.start + e.extent.length := by
  simp only [State.usesBeyond, Bool.or_eq_true, List.any_eq_true, decide_eq_true_eq]
  rfl

theorem setOneParam_volume : s.setOneParam { identifier := 1, selector := selector, value := value } =
    if ¬(1 ≤ value ∧ value ≤ 2 ^ 48) then .refuse .badParam
    else if s.usesBeyond value then .refuse .inUse
    else .done (s.setParams fun p => { p with volume := value }) .empty := by
  simp only [State.setOneParam, Bool.not_eq_true', ← Bool.not_eq_true, volumeInRange_iff]

theorem setOneParam_lease : s.setOneParam { identifier := 2, selector := selector, value := value } =
    if 50 ≤ value ∧ value ≤ 60000 then .done (s.setParams fun p => { p with leasePeriod := value }) .empty
    else .refuse .badParam := by
  simp only [State.setOneParam, leaseInRange_iff]

theorem setOneParam_recallTimeout : s.setOneParam { identifier := 3, selector := selector, value := value } =
    if 5 ≤ value ∧ value ≤ 10000 then .done (s.setParams fun p => { p with recallTimeout := value }) .empty
    else .refuse .badParam := by
  simp only [State.setOneParam, recallTimeoutInRange_iff]

theorem setOneParam_attemptLimit : s.setOneParam { identifier := 4, selector := selector, value := value } =
    if 1 ≤ value ∧ value ≤ 8 then .done (s.setParams fun p => { p with attemptLimit := value }) .empty
    else .refuse .badParam := by
  simp only [State.setOneParam, attemptLimitInRange_iff]

/-! ## The settings of a group (R124) -/

/-- Identifiers 5 to 8 name the settings of a group. -/
theorem setOneParam_group {id : Nat} (hlow : 5 ≤ id) (hhigh : id ≤ 8) :
    s.setOneParam { identifier := id, selector := selector, value := value } = s.setGroupParam id selector value := by
  obtain rfl | rfl | rfl | rfl : id = 5 ∨ id = 6 ∨ id = 7 ∨ id = 8 := by omega
  all_goals rfl

theorem setGroupParam_badSelector (id : Nat) (h : 1 < selector) :
    s.setGroupParam id selector value = .refuse .badParam := by
  simp only [State.setGroupParam, groupOf_none h]

/-- The value is in the range that goes with a setting of a group whose settings are `x` (R118, R163). -/
def SettingInRange (x : GroupSettings) (id value : Nat) : Prop :=
  if id = 6 then 1 ≤ value ∧ value ≤ 64 ∧ x.threshold ≤ value
  else if id = 7 then 1 ≤ value ∧ value ≤ x.window
  else value ≤ 1

/-- A group's settings with the one that `id` names replaced (R163). -/
def withSetting (x : GroupSettings) (id value : Nat) : GroupSettings :=
  if id = 5 then { x with enable := value = 1 }
  else if id = 6 then { x with window := value }
  else if id = 7 then { x with threshold := value }
  else { x with notify := value = 1 }

/-- `s` with one setting of group `g` replaced; all but notify clear the windows of the group's members (R124). -/
def groupSet (s : State) (g : GroupId) (id value : Nat) : State :=
  { s with churn :=
    { groups := s.churn.groups.set g (withSetting (s.churn.groups.get g) id value)
      members := if id = 8 then s.churn.members else windowsCleared s g } }

variable (g : GroupId)

theorem setGroupParam_enable : s.setGroupParam 5 g.val value =
    if value ≤ 1 then .done (groupSet s g 5 value) .empty else .refuse .badParam := by
  simp only [State.setGroupParam, groupOf_val, clearGroupWindows_eq]
  rfl

theorem setGroupParam_window : s.setGroupParam 6 g.val value =
    if 1 ≤ value ∧ value ≤ 64 ∧ (s.churn.groups.get g).threshold ≤ value then .done (groupSet s g 6 value) .empty
    else .refuse .badParam := by
  simp only [State.setGroupParam, groupOf_val, clearGroupWindows_eq]
  rfl

theorem setGroupParam_threshold : s.setGroupParam 7 g.val value =
    if 1 ≤ value ∧ value ≤ (s.churn.groups.get g).window then .done (groupSet s g 7 value) .empty
    else .refuse .badParam := by
  simp only [State.setGroupParam, groupOf_val, clearGroupWindows_eq]
  rfl

theorem setGroupParam_notify : s.setGroupParam 8 g.val value =
    if value ≤ 1 then .done (groupSet s g 8 value) .empty else .refuse .badParam := by
  simp only [State.setGroupParam, groupOf_val]
  rfl

/-- The four settings in one rule: in range they are set, and otherwise refused. -/
theorem setGroupParam_cases {id : Nat} (hlow : 5 ≤ id) (hhigh : id ≤ 8) :
    (SettingInRange (s.churn.groups.get g) id value →
      s.setGroupParam id g.val value = .done (groupSet s g id value) .empty) ∧
    (¬SettingInRange (s.churn.groups.get g) id value → s.setGroupParam id g.val value = .refuse .badParam) := by
  obtain rfl | rfl | rfl | rfl : id = 5 ∨ id = 6 ∨ id = 7 ∨ id = 8 := by omega
  · rw [setGroupParam_enable]
    exact ⟨fun h => if_pos h, fun h => if_neg h⟩
  · rw [setGroupParam_window]
    exact ⟨fun h => if_pos h, fun h => if_neg h⟩
  · rw [setGroupParam_threshold]
    exact ⟨fun h => if_pos h, fun h => if_neg h⟩
  · rw [setGroupParam_notify]
    exact ⟨fun h => if_pos h, fun h => if_neg h⟩

/-! ## An agent's group (R125) -/

theorem setOneParam_agentGroup : s.setOneParam { identifier := 9, selector := selector, value := value } =
    s.setAgentGroup selector value := rfl

theorem setAgentGroup_badAgent (h : 7 < selector) : s.setAgentGroup selector value = .refuse .badAgent := by
  simp only [State.setAgentGroup, agentOf_none h]

theorem setAgentGroup_badParam (a : AgentId) (h : 1 < value) : s.setAgentGroup a.val value = .refuse .badParam := by
  simp only [State.setAgentGroup, agentOf_val, groupOf_none h]

theorem setAgentGroup_done (a : AgentId) : s.setAgentGroup a.val g.val = .done
    { withSession s a { s.session a with group := g } with
      churn := { s.churn with members := s.churn.members.set a { s.member a with window := [] } } } .empty := by
  simp only [State.setAgentGroup, agentOf_val, groupOf_val]
  rfl

end

end Sys2Proof.Laws
end

section
/-!
The statement about SET_PARAM.
-/

namespace Sys2Proof.Proofs

open Sys2Proof.Machine Sys2Proof.Safety Sys2Proof.Laws

/-- Settles O53: the tests of R163 in order, one case for each parameter. -/
theorem setParamSetsOne : Obligations.SetParamSetsOne := by
  intro s f rest hhead id selector value refusing done setting p beyond
  have hrefused : ∀ status, (commandTaken s rest).runSetParam f.body = .refuse status → refusing status :=
    fun status hrun => congrArg Host.Outcome.next (onCommand_refused hhead hrun)
  have hset : ∀ t, (commandTaken s rest).runSetParam f.body = .done t .empty →
      exec .setParam s = .next (mgmtReplied t (okReply f.tag)) :=
    fun t hrun => congrArg Host.Outcome.next (onCommand_done hhead hrun)
  refine ⟨fun hm => hrefused _ (runSetParam_wrongState hm), fun hm => ⟨?_, fun hlength => ?_⟩⟩
  · intro hbad
    by_cases hlength : f.body.length = 10
    · have hrun := runSetParam_fields (s := commandTaken s rest) hm hlength rfl
      exact hrefused _ (hrun.trans (setOneParam_unknown (hbad.resolve_left (not_not.mpr hlength))))
    · exact hrefused _ (runSetParam_badLength hm hlength)
  have hfields : ∀ n, id = n → (commandTaken s rest).runSetParam f.body =
      (commandTaken s rest).setOneParam { identifier := n, selector := selector, value := value } :=
    fun n hid => runSetParam_fields hm hlength hid
  refine ⟨fun hid => ?_, fun hid => ?_, fun hid => ?_, fun hid => ?_, fun hlow hhigh hselector => ?_, fun g hg => ?_,
    fun hid => ⟨fun hselector => ?_, fun a ha => ⟨fun hvalue => ?_, fun g hg => ?_⟩⟩⟩
  · have hrun := (hfields 1 hid).trans setOneParam_volume
    refine ⟨fun hrange => hrefused _ (hrun.trans (if_pos hrange)), fun hrange => ⟨fun hbeyond => ?_, fun hfits => ?_⟩⟩
    · exact hrefused _ (hrun.trans ((if_neg (not_not.mpr hrange)).trans (if_pos (usesBeyond_iff.mpr hbeyond))))
    · exact hset _ (hrun.trans ((if_neg (not_not.mpr hrange)).trans (if_neg (mt usesBeyond_iff.mp hfits))))
  · have hrun := (hfields 2 hid).trans setOneParam_lease
    exact ⟨fun hrange => hrefused _ (hrun.trans (if_neg hrange)), fun hrange => hset _ (hrun.trans (if_pos hrange))⟩
  · have hrun := (hfields 3 hid).trans setOneParam_recallTimeout
    exact ⟨fun hrange => hrefused _ (hrun.trans (if_neg hrange)), fun hrange => hset _ (hrun.trans (if_pos hrange))⟩
  · have hrun := (hfields 4 hid).trans setOneParam_attemptLimit
    exact ⟨fun hrange => hrefused _ (hrun.trans (if_neg hrange)), fun hrange => hset _ (hrun.trans (if_pos hrange))⟩
  · exact hrefused _ ((hfields id rfl).trans
      ((setOneParam_group hlow hhigh).trans (setGroupParam_badSelector id hselector)))
  · intro x good y hlow hhigh
    have hrun := (hfields id rfl).trans (setOneParam_group hlow hhigh)
    rw [hg] at hrun
    obtain ⟨hgood, hbad⟩ := setGroupParam_cases (s := commandTaken s rest) (value := value) g hlow hhigh
    exact ⟨fun h => hrefused _ (hrun.trans (hbad h)), fun h => hset _ (hrun.trans (hgood h))⟩
  · exact hrefused _ ((hfields 9 hid).trans (setOneParam_agentGroup.trans (setAgentGroup_badAgent hselector)))
  · have hrun := (hfields 9 hid).trans setOneParam_agentGroup
    rw [ha] at hrun
    exact hrefused _ (hrun.trans (setAgentGroup_badParam a hvalue))
  · have hrun := (hfields 9 hid).trans setOneParam_agentGroup
    rw [ha, hg] at hrun
    exact hset _ (hrun.trans (setAgentGroup_done g a))

end Sys2Proof.Proofs
end

section
/-!
SUPPORT. RESET_DIRECTORY: every entry answered in arrival order, the sessions reset one by one, and the state its seven
steps leave (R52, R99, R115, R127, R171).
-/

namespace Sys2Proof.Laws

set_option Elab.async false

open Sys2Proof.Machine Sys2Proof.Safety

/-! ## Entries of every agent answered in arrival order (R52) -/

/-- A reply area once the slots of some entries have been filled with the same refusal, in order. -/
def refusedArea (area : ReplyArea TaggedReply) (l : List WaitEntry) (code : RefusalCode) : ReplyArea TaggedReply :=
  { reserved := area.reserved - l.length
    filled := area.filled ++ l.map fun e => { tag := e.tag, reply := .refused code } }

/-- The links once the entries of `l` have been answered: each by the entries of its own agent. -/
def refusedLinks (s : State) (l : List WaitEntry) (code : RefusalCode) : PerAgent AgentLink :=
  ⟨Vector.ofFn fun a : Fin 8 =>
    { s.link a with replies := refusedArea (s.link a).replies (l.filter fun e => e.agent = a) code }⟩

theorem refuseEntries_all (code : RefusalCode) : ∀ (l : List WaitEntry) (s : State),
    s.refuseEntries l code = { s with agentLinks := refusedLinks s l code }
  | [], s => by
    have hlinks : refusedLinks s [] code = s.agentLinks := PerAgent.ext_get fun a => by
      simp [refusedLinks, refusedArea, ofFn_get, State.link]
    rw [hlinks]
    rfl
  | e :: l, s => by
    have hlinks : refusedLinks (s.refuse e.agent e.tag code) l code = refusedLinks s (e :: l) code := by
      refine PerAgent.ext_get fun a => ?_
      simp only [refusedLinks, ofFn_get, State.refuse, State.placeReply, State.modLink_link, List.filter_cons]
      by_cases ha : a = e.agent
      · simp [ha, refusedArea, ReplyArea.place, Nat.sub_sub, Nat.add_comm]
      · simp [ha, Ne.symm ha]
    have hrest := refuseEntries_all code l (s.refuse e.agent e.tag code)
    rw [hlinks] at hrest
    exact hrest

/-! ## The sessions (R99) -/

/-- A session record after the reset. -/
def resetRecord (x : Session) : Session := if isActive x.state then { x with state := .offline } else x

/-- A link after the reset of its agent's session `x`. -/
def noticedLink (x : Session) (l : AgentLink) : AgentLink :=
  { l with control := if isActive x.state then addNotice l.control .directoryReset x.epoch else l.control }

theorem resetSession_eq (s : State) (a : AgentId) : s.resetSession a =
    { s with
      sessions := s.sessions.modify a resetRecord
      agentLinks := s.agentLinks.modify a (noticedLink (s.session a)) } := by
  unfold State.resetSession
  split
  · rename_i d hd
    have hactive : isActive (s.session a).state = true := hd ▸ rfl
    have hrecord : s.sessions.modify a resetRecord = s.sessions.modify a fun x => { x with state := .offline } :=
      congrArg (s.sessions.set a) (if_pos hactive)
    have hlink : noticedLink (s.session a) =
        fun l => { l with control := addNotice l.control .directoryReset (s.session a).epoch } := by
      unfold noticedLink
      simp only [if_pos hactive]
    rw [hrecord, hlink]
    rfl
  · rename_i hother
    have hinactive : ¬isActive (s.session a).state = true := fun hactive => by
      obtain ⟨d, hd⟩ := (isActive_iff _).mp hactive
      exact hother d hd
    have hlink : noticedLink (s.session a) = id := by
      unfold noticedLink
      simp only [if_neg hinactive]
      rfl
    have hrecord : resetRecord (s.session a) = s.session a := if_neg hinactive
    rw [modify_eq_self (f := resetRecord) hrecord, hlink, modify_eq_self rfl]

/-- One agent after another: each reset reads its own agent's session alone. -/
theorem foldl_resetSession : ∀ (l : List AgentId) (s : State), l.Nodup →
    l.foldl State.resetSession s =
      { s with
        sessions := l.foldl (fun p a => p.modify a resetRecord) s.sessions
        agentLinks := l.foldl (fun p a => p.modify a (noticedLink (s.session a))) s.agentLinks }
  | [], _, _ => rfl
  | a :: l, s, h => by
    obtain ⟨ha, hl⟩ := List.nodup_cons.mp h
    have hlinks : ∀ p : PerAgent AgentLink,
        l.foldl (fun p b => p.modify b (noticedLink ((s.sessions.modify a resetRecord).get b))) p =
          l.foldl (fun p b => p.modify b (noticedLink (s.session b))) p := fun p =>
      List.foldl_ext _ _ _ fun q b hb => by
        rw [PerAgent.get_modify_ne _ (ne_of_mem_of_not_mem hb ha)]
        rfl
    rw [List.foldl_cons, foldl_resetSession l _ hl, resetSession_eq]
    exact congrArg (fun links => { s with
      sessions := l.foldl (fun p b => p.modify b resetRecord) (s.sessions.modify a resetRecord)
      agentLinks := links }) (hlinks _)

theorem resetSessions_eq (s : State) : allAgents.foldl State.resetSession s =
    { s with
      sessions := ⟨Vector.ofFn fun a : Fin 8 => resetRecord (s.sessions.get a)⟩
      agentLinks := ⟨Vector.ofFn fun a : Fin 8 => noticedLink (s.sessions.get a) (s.agentLinks.get a)⟩ } := by
  rw [foldl_resetSession allAgents s (by decide), foldl_modify_allAgents, foldl_modify_allAgents]
  rfl

/-! ## The sweep (R115) -/

/-- The Report Queue once an active sweep has been reported ABORTED. -/
def abortReported (sweep : Option Sweep) (q : ReportQueue) : ReportQueue :=
  match sweep with
  | none => q
  | some w => q.append (.sweepDone w.id .aborted w.tallies)

theorem endSweep_aborted (s : State) :
    s.endSweep .aborted = { s with sweep := none, reportQueue := abortReported s.sweep s.reportQueue } := by
  cases hsweep : s.sweep with
  | none =>
    rw [State.endSweep, hsweep]
    exact congrArg (fun sweep => { s with sweep := sweep }) hsweep
  | some w =>
    rw [endSweep_some hsweep]
    rfl

/-! ## The seven steps (R171) -/

/-- What RESET_DIRECTORY leaves of a link: the waiting requests answered and, if its session was ACTIVE, a NOTICE. -/
def resetLink (s : State) (a : AgentId) : AgentLink :=
  noticedLink (s.session a)
    { s.link a with replies := refusedArea (s.link a).replies (s.entriesOf a) .directoryReset }

theorem resetTables_eq (s : State) : s.resetTables =
    { s with
      waitList := []
      grantTable := { s.grantTable with records := [] }
      sendLists := .const []
      sweep := none
      reportQueue := abortReported s.sweep s.reportQueue
      sessions := ⟨Vector.ofFn fun a : Fin 8 => resetRecord (s.session a)⟩
      churn := { s.churn with members := .const { window := [], alarm := false } }
      agentLinks := ⟨Vector.ofFn fun a : Fin 8 => resetLink s a⟩ } := by
  unfold State.resetTables
  extract_lets s1 s2 s3 s4 s5 churn
  have hanswered : s1 =
      { s with waitList := [], agentLinks := refusedLinks s s.waitList .directoryReset } := refuseEntries_all ..
  have hended : s4 = { s3 with sweep := none, reportQueue := abortReported s3.sweep s3.reportQueue } :=
    endSweep_aborted s3
  have hlinks : ∀ a, noticedLink (s.session a) ((refusedLinks s s.waitList .directoryReset).get a) = resetLink s a :=
    fun a => congrArg (noticedLink (s.session a)) (ofFn_get _ a)
  unfold churn s5
  rw [resetSessions_eq, hended]
  unfold s3 s2
  rw [hanswered]
  simp only [← hlinks]
  rfl

section
variable {s : State} {body : List Byte}

theorem runResetDirectory_wrongState (h : s.management.state = .unconfigured) :
    s.runResetDirectory body = .refuse .wrongState := if_pos h

theorem runResetDirectory_badParam (hm : s.management.state ≠ .unconfigured) (h : body ≠ []) :
    s.runResetDirectory body = .refuse .badParam := by
  rw [State.runResetDirectory, if_neg hm, if_pos (mt List.length_eq_zero_iff.mp h)]

theorem runResetDirectory_done (hm : s.management.state ≠ .unconfigured) (h : body = []) :
    s.runResetDirectory body = .done s.resetTables .empty := by
  rw [State.runResetDirectory, if_neg hm, if_neg (not_not.mpr (List.length_eq_zero_iff.mpr h))]

end

end Sys2Proof.Laws
end

section
/-!
The statement about RESET_DIRECTORY.
-/

namespace Sys2Proof.Proofs

open Sys2Proof.Machine Sys2Proof.Safety Sys2Proof.Laws

/-- Settles O59: the two tests, and the state that the steps of R171 leave. -/
theorem resetEmptiesTables : Obligations.ResetEmptiesTables := by
  intro s f rest hhead refusing
  refine ⟨fun hm => ?_, fun hm hbody => ?_, fun hm hbody => ?_⟩
  · exact congrArg Host.Outcome.next (onCommand_refused hhead (runResetDirectory_wrongState hm))
  · exact congrArg Host.Outcome.next (onCommand_refused hhead (runResetDirectory_badParam hm hbody))
  · have hrun := runResetDirectory_done (s := commandTaken s rest) hm hbody
    rw [resetTables_eq] at hrun
    exact congrArg Host.Outcome.next (onCommand_done hhead hrun)

end Sys2Proof.Proofs
end
